-- ==== Sys2Proof/Word.lean ====
section
/-! DEFINITION. Word types, the fixed-size table type and the index types every file uses. -/

namespace Sys2Proof

/-- A byte of the station link or of a sweep frame. -/
abbrev Byte := BitVec 8

/-- A ring position, 1..12 in the spec (00_scope.md "Numbering"); held from 0. -/
abbrev Pos := Fin 12

/-- A channel, 1..48 in the spec; held from 0. -/
abbrev Chan := Fin 48

/-- A group or profile number, 1..8 in the spec; held from 0. -/
abbrev Grp := Fin 8

/-- A fixed number of like things, by index. -/
structure Table (α : Type) (n : Nat) where
  items : List α
  len : items.length = n
  deriving DecidableEq, Repr

/-- The entry at index `i`. -/
def Table.get {α : Type} {n : Nat} (t : Table α n) (i : Fin n) : α :=
  t.items.get (i.cast t.len.symm)

/-- The table with the entry at index `i` replaced. -/
def Table.set {α : Type} {n : Nat} (t : Table α n) (i : Fin n) (x : α) : Table α n :=
  ⟨t.items.set i x, by simp [t.len]⟩

/-- A table of `n` equal entries. -/
def Table.replicate {α : Type} (n : Nat) (x : α) : Table α n :=
  ⟨List.replicate n x, by simp⟩

/-- Every entry mapped through `f`. -/
def Table.map {α β : Type} {n : Nat} (f : α → β) (t : Table α n) : Table β n :=
  ⟨t.items.map f, by simp [t.len]⟩

/-- The indexes below `n`, rising. -/
def indexes (n : Nat) : List (Fin n) := List.ofFn id

/-- The table whose entry at `i` is `f i`. -/
def Table.tabulate {α : Type} (n : Nat) (f : Fin n → α) : Table α n :=
  ⟨(indexes n).map f, by simp [indexes]⟩

/-- The table with the entry at `i` changed by `f`. -/
def Table.modify {α : Type} {n : Nat} (t : Table α n) (i : Fin n) (f : α → α) : Table α n :=
  t.set i (f (t.get i))

/-- The index of a number counted from 1, when it lies in 1..n. -/
def ofNumber (n : Nat) (k : Nat) : Option (Fin n) :=
  if h : 1 ≤ k ∧ k ≤ n then some ⟨k - 1, by omega⟩ else none

/-- The number, counted from 1, of an index. -/
def ordinal {n : Nat} (i : Fin n) : Nat := i.val + 1

end Sys2Proof
end

