-- ==== Sys2Proof/Syntax.lean ====
section
/-! DEFINITION. The commands of the block: one constructor of `Instr` per row of spec/opcode_table.json.

The commands that are directives of the catalogue (09_the_station_link.md) carry the directive's tag and its operands as
they stand on the link: every enumeration, YES/NO and mask is its code number (R191), so that a value out of range can be
written and is refused by the owner. The operands of one directive are one value of `Directive`, which the payload parser
of Decode.lean also answers. -/

namespace Sys2Proof

/-- R21: the two ring ports. -/
inductive Port where
  | forwardPort
  | returnPort
  deriving DecidableEq, Repr

/-- R165: a STATUS of the printer. -/
structure PrinterStatus where
  ready : Bool
  paper : Bool
  temp : Int
  fault : Nat
  deriving DecidableEq, Repr

/-- R1: operands of LOAD-CHANNEL, fields 1 to 7 as codes. -/
structure ChannelFields where
  kind : Nat
  range : Nat
  nom : Nat
  declared : Nat
  raw : Nat
  analyse : Nat
  harmonic : Nat
  deriving DecidableEq, Repr

/-- R3: operands of LOAD-GROUP, fields 1 to 12. Also the stored group entry. -/
structure GroupFields where
  members : List Nat
  profile : Nat
  bins : Option Nat
  nominal : Nat
  refA : Nat
  refB : Option Nat
  k : Nat
  f : Nat
  m : Nat
  w : Nat
  d : Nat
  flywheel : Nat
  deriving DecidableEq, Repr

/-- R84: operands of LOAD-PROFILE, fields 1 to 11. Also the stored profile. -/
structure ProfileFields where
  intEnter : Nat
  intExit : Nat
  sagEnter : Nat
  sagExit : Nat
  swellExit : Nat
  swellEnter : Nat
  pre : Nat
  post : Nat
  body : Nat
  burstMs : Nat
  maxSeconds : Nat
  deriving DecidableEq, Repr

/-- R114: operands of LOAD-BINS, fields 1 to 5. Also the stored bin set. -/
structure BinFields where
  orders : List Nat
  limits : List Nat
  blockLength : Nat
  exponent : Nat
  minFund : Nat
  deriving DecidableEq, Repr

/-- R42: operands of LOAD-POD, fields 1 to 7; the silence limit may be omitted. -/
structure PodFields where
  enable : Nat
  typeCode : Nat
  silence : Option Nat
  retry : Nat
  offTime : Nat
  cooldown : Nat
  quiet : Nat
  deriving DecidableEq, Repr

/-- R152, R153: one section of a LOAD-TEMPLATE: its kind code and its operands in order, or a section that cannot be
read (unknown kind, or an operand missing). -/
inductive SectionArg where
  | given (kind : Nat) (operands : List Nat)
  | unreadable
  deriving DecidableEq, Repr

/-- R153: a section list: its item count as sent, and the sections read. -/
structure TemplateFields where
  count : Nat
  sections : List SectionArg
  deriving DecidableEq, Repr

/-- R154: operands of LOAD-PRINTER, fields 1 to 6. Also the stored settings. -/
structure PrinterFields where
  retryLimit : Nat
  retryMs : Nat
  cooldown : Nat
  hotLimit : Nat
  resumeLimit : Nat
  heldMinutes : Nat
  deriving DecidableEq, Repr

/-- R143: a link operand of AMEND-NOTE: left out, given as NONE, or given. -/
inductive LinkArg where
  | leftOut
  | none
  | given (n : Nat)
  deriving DecidableEq, Repr

/-- R139: operands of ADD-NOTE. -/
structure NoteFields where
  kind : Nat
  refer : Option Nat
  sag : Option Nat
  interval : Option Nat
  pod : Option Nat
  text : List Byte
  deriving DecidableEq, Repr

/-- R143: operands of AMEND-NOTE after the note number; each may be left out. -/
structure AmendFields where
  kind : Option Nat
  refer : Option Nat
  sag : LinkArg
  interval : LinkArg
  pod : LinkArg
  text : Option (List Byte)
  deriving DecidableEq, Repr

/-- R156: operands of SUBMIT-PRINT. -/
structure SubmitFields where
  template : Nat
  fromTick : Nat
  toTick : Nat
  mask : Nat
  copies : Nat
  deriving DecidableEq, Repr

/-- R10: operands of OPEN-SURVEY. -/
structure OpenFields where
  number : Nat
  wall : Nat
  site : Option (List Byte)
  crew : Option (List Byte)
  deriving DecidableEq, Repr

/-- R136: operands of SET-IDENTITY. -/
structure IdentityFields where
  site : Option (List Byte)
  crew : Option (List Byte)
  client : Option (List Byte)
  deriving DecidableEq, Repr

/-- R149: operand of READ-NOTE: a note number, or the word IDENTITY. -/
inductive NoteSelector where
  | note (n : Nat)
  | identity
  deriving DecidableEq, Repr

/-- The directives of the catalogue with their operands (R176, R191). A table load without fields is the form that gives
the index alone (R5). -/
inductive Directive where
  | loadChannel (index : Nat) (fields : Option ChannelFields)
  | loadGroup (index : Nat) (fields : Option GroupFields)
  | loadProfile (index : Nat) (fields : Option ProfileFields)
  | loadBins (index : Nat) (fields : Option BinFields)
  | loadPod (index : Nat) (fields : Option PodFields)
  | loadTemplate (index : Nat) (fields : Option TemplateFields)
  | loadPrinter (fields : PrinterFields)
  | loadLink (g : Nat)
  | readTable (table index : Nat)
  | openSurvey (fields : OpenFields)
  | closeSurvey
  | restart
  | setIdentity (fields : IdentityFields)
  | addNote (fields : NoteFields)
  | amendNote (note : Nat) (fields : AmendFields)
  | withdrawNote (note : Nat)
  | mark
  | readNote (which : NoteSelector)
  | submitPrint (fields : SubmitFields)
  | cancelPrint (job : Nat)
  | podRead (position parameter : Nat)
  | podWrite (position parameter value : Nat)
  | podCycle (position : Nat)
  | podRelease (position : Nat)
  | readKit
  | readSnapshot
  | clearSnapshot
  | clearCounters
  | clearPeaks (group : Nat)
  | readSag (sag : Nat)
  deriving DecidableEq, Repr

/-- The commands: one constructor per row of spec/opcode_table.json, with the row's operands. -/
inductive Instr where
  -- resets, ticks and the ring (02)
  | hardwareReset
  | tickStart
  | sweepReturn (port : Port) (frame : List Byte) (scan : Nat)
  | tickClose
  | trialSweep
  | downRetry
  | transactionTimeout
  -- pod timers and the feed-drained inputs (03)
  | poweringTimeout (p : Pos)
  | silenceLimit (p : Pos)
  | offTimerExpiry (p : Pos)
  | feedDrained (p : Pos) (level : Bool)
  | drainWaitTimeout (p : Pos)
  | cooldownExpiry (p : Pos)
  | quietPeriod (p : Pos)
  -- tracker boundaries (04)
  | timedBoundary (g : Grp)
  | forcedBoundary (g : Grp)
  | wheelBoundary (g : Grp)
  -- record emission and the link (05, 06, 07, 09)
  | sagRecordEmit
  | intervalRecordEmit
  | noteRecordEmit
  | frameSend
  | inboundFrame (bytes : List Byte)
  | byteGapTimeout
  | badDirective (tag : Byte) (payload : List Byte)
  -- directives
  | loadChannel (tag : Byte) (index : Nat) (fields : Option ChannelFields)
  | loadGroup (tag : Byte) (index : Nat) (fields : Option GroupFields)
  | loadProfile (tag : Byte) (index : Nat) (fields : Option ProfileFields)
  | loadBins (tag : Byte) (index : Nat) (fields : Option BinFields)
  | loadPod (tag : Byte) (index : Nat) (fields : Option PodFields)
  | loadTemplate (tag : Byte) (index : Nat) (fields : Option TemplateFields)
  | loadPrinter (tag : Byte) (fields : PrinterFields)
  | loadLink (tag : Byte) (grant : Nat)
  | readTable (tag : Byte) (table index : Nat)
  | openSurvey (tag : Byte) (fields : OpenFields)
  | closeSurvey (tag : Byte)
  | restart (tag : Byte)
  | setIdentity (tag : Byte) (fields : IdentityFields)
  | addNote (tag : Byte) (fields : NoteFields)
  | amendNote (tag : Byte) (note : Nat) (fields : AmendFields)
  | withdrawNote (tag : Byte) (note : Nat)
  | mark (tag : Byte)
  | readNote (tag : Byte) (which : NoteSelector)
  | submitPrint (tag : Byte) (fields : SubmitFields)
  | cancelPrint (tag : Byte) (job : Nat)
  | podRead (tag : Byte) (position parameter : Nat)
  | podWrite (tag : Byte) (position parameter value : Nat)
  | podCycle (tag : Byte) (position : Nat)
  | podRelease (tag : Byte) (position : Nat)
  | readKit (tag : Byte)
  | readSnapshot (tag : Byte)
  | clearSnapshot (tag : Byte)
  | clearCounters (tag : Byte)
  | clearPeaks (tag : Byte) (group : Nat)
  | readSag (tag : Byte) (sag : Nat)
  -- the printer line (08)
  | printerStatus (status : PrinterStatus)
  | printReplyTimeout
  | printRetryInterval
  | printPollDelay
  | heldPoll
  | printCooldownExpiry
  | heldLimitExpiry
  deriving DecidableEq, Repr

end Sys2Proof
end

