-- ==== Sys2Proof/Decode.lean ====
section
/-! DEFINITION. Reading a directive's payload (R176, R191), total on any bytes. The rows of opcode_table.json give no
bits, so no word spells a command (entry 32). -/

namespace Sys2Proof

/-- The unsigned number of `k` big-endian bytes, and the bytes after them. -/
def takeNat (k : Nat) (bs : List Byte) : Option (Nat × List Byte) :=
  if k ≤ bs.length then some ((bs.take k).foldl (fun n b => n * 256 + b.toNat) 0, bs.drop k) else none

/-- R191: text, a two-byte length and that many characters. -/
def takeText (bs : List Byte) : Option (List Byte × List Byte) := do
  let (n, bs) ← takeNat 2 bs
  if n ≤ bs.length then some (bs.take n, bs.drop n) else none

/-- `n` numbers of `k` bytes each. -/
def takeNats (k : Nat) : Nat → List Byte → Option (List Nat × List Byte)
  | 0, bs => some ([], bs)
  | n + 1, bs => do
    let (x, bs) ← takeNat k bs
    let (xs, bs) ← takeNats k n bs
    some (x :: xs, bs)

/-- R191: a list, a one-byte item count and the items. -/
def takeList (k : Nat) (bs : List Byte) : Option (List Nat × List Byte) := do
  let (n, bs) ← takeNat 1 bs
  takeNats k n bs

/-- R191: the presence byte of a directive with `n` optional operands; a bit beyond them makes the list malformed. -/
def takePresence (n : Nat) (bs : List Byte) : Option (Nat × List Byte) := do
  let (p, bs) ← takeNat 1 bs
  if p < 2 ^ n then some (p, bs) else none

/-- R191: an optional operand of `k` bytes takes no bytes when it is not given. -/
def takeOpt (given : Bool) (k : Nat) (bs : List Byte) : Option (Option Nat × List Byte) :=
  if given then (takeNat k bs).map fun (x, r) => (some x, r) else some (none, bs)

/-- R191: an optional text operand. -/
def takeOptText (given : Bool) (bs : List Byte) : Option (Option (List Byte) × List Byte) :=
  if given then (takeText bs).map fun (x, r) => (some x, r) else some (none, bs)

/-- R143, R191: a link operand of AMEND-NOTE. One given as NONE takes no bytes (entry 24). -/
def takeLink (given isNone : Bool) (k : Nat) (bs : List Byte) : Option (LinkArg × List Byte) :=
  if given then
    if isNone then some (.none, bs) else (takeNat k bs).map fun (x, r) => (.given x, r)
  else if isNone then none
  else some (.leftOut, bs)

/-- The value read, when no byte is left over. -/
def whole {α : Type} (x : α) (bs : List Byte) : Option α := if bs.isEmpty then some x else none

/-- R152, R191: the widths of a section's operands, by kind code. -/
def sectWidths : Nat → Option (List Nat)
  | 1 | 2 => some []
  | 3 | 4 => some [1, 1, 2]
  | 5 | 6 | 7 | 8 | 9 => some [1]
  | _ => none

/-- Numbers of the given widths. -/
def takeWidths : List Nat → List Byte → Option (List Nat × List Byte)
  | [], bs => some ([], bs)
  | k :: ks, bs => do
    let (x, bs) ← takeNat k bs
    let (xs, bs) ← takeWidths ks bs
    some (x :: xs, bs)

/-- R153, R191: `n` sections. A list that ends before the kind of an announced section runs short, and one with bytes left
over is too long: both are malformed. A section of unknown kind, or one that has begun and lacks an operand, ends the reading:
what follows it cannot be told apart, and the owner refuses the load with that place (entry 47). -/
def takeSections : Nat → List Byte → Option (List SectionArg)
  | 0, bs => whole [] bs
  | n + 1, bs =>
    match takeNat 1 bs with
    | none => none
    | some (kind, bs) =>
      match (sectWidths kind).bind fun ws => takeWidths ws bs with
      | none => some [.unreadable]
      | some (ops, bs) => (takeSections n bs).map fun rest => .given kind ops :: rest

/-- The characters of the word IDENTITY (R149). -/
def identityWord : List Byte := [0x49, 0x44, 0x45, 0x4E, 0x54, 0x49, 0x54, 0x59]

def parseChannel (bs : List Byte) : Option Directive := do
  let (i, bs) ← takeNat 1 bs
  if bs.isEmpty then some (.loadChannel i none) else
  let (kind, bs) ← takeNat 1 bs
  let (range, bs) ← takeNat 1 bs
  let (nom, bs) ← takeNat 2 bs
  let (declared, bs) ← takeNat 2 bs
  let (raw, bs) ← takeNat 1 bs
  let (analyse, bs) ← takeNat 1 bs
  let (harmonic, bs) ← takeNat 1 bs
  whole (.loadChannel i (some ⟨kind, range, nom, declared, raw, analyse, harmonic⟩)) bs

/-- Fields 3 and 6 are LOAD-GROUP's optional operands, in that order (entry 24). The flywheel limit is a count of one
byte (entry 56). -/
def parseGroup (bs : List Byte) : Option Directive := do
  if bs.length = 1 then
    let (i, _) ← takeNat 1 bs
    some (.loadGroup i none)
  else
    let (p, bs) ← takePresence 2 bs
    let (i, bs) ← takeNat 1 bs
    let (members, bs) ← takeList 1 bs
    let (profile, bs) ← takeNat 1 bs
    let (bins, bs) ← takeOpt (p.testBit 0) 1 bs
    let (nominal, bs) ← takeNat 1 bs
    let (refA, bs) ← takeNat 1 bs
    let (refB, bs) ← takeOpt (p.testBit 1) 1 bs
    let (k, bs) ← takeNat 1 bs
    let (f, bs) ← takeNat 1 bs
    let (m, bs) ← takeNat 1 bs
    let (w, bs) ← takeNat 1 bs
    let (d, bs) ← takeNat 1 bs
    let (fly, bs) ← takeNat 1 bs
    whole (.loadGroup i (some ⟨members, profile, bins, nominal, refA, refB, k, f, m, w, d, fly⟩)) bs

def parseProfile (bs : List Byte) : Option Directive := do
  let (i, bs) ← takeNat 1 bs
  if bs.isEmpty then some (.loadProfile i none) else
  let (a, bs) ← takeNat 2 bs
  let (b, bs) ← takeNat 2 bs
  let (c, bs) ← takeNat 2 bs
  let (d, bs) ← takeNat 2 bs
  let (e, bs) ← takeNat 2 bs
  let (f, bs) ← takeNat 2 bs
  let (pre, bs) ← takeNat 1 bs
  let (post, bs) ← takeNat 1 bs
  let (body, bs) ← takeNat 1 bs
  let (burst, bs) ← takeNat 2 bs
  let (most, bs) ← takeNat 2 bs
  whole (.loadProfile i (some ⟨a, b, c, d, e, f, pre, post, body, burst, most⟩)) bs

/-- The limits of R191 are the bin set's: two bytes each (entry 56). -/
def parseBins (bs : List Byte) : Option Directive := do
  let (i, bs) ← takeNat 1 bs
  if bs.isEmpty then some (.loadBins i none) else
  let (orders, bs) ← takeList 1 bs
  let (limits, bs) ← takeList 2 bs
  let (b, bs) ← takeNat 1 bs
  let (n, bs) ← takeNat 1 bs
  let (fund, bs) ← takeNat 2 bs
  whole (.loadBins i (some ⟨orders, limits, b, n, fund⟩)) bs

/-- Field 3, the silence limit, is LOAD-POD's optional operand (R42). The silence and retry limits are counts of one byte
(entry 56). -/
def parsePod (bs : List Byte) : Option Directive := do
  if bs.length = 1 then
    let (i, _) ← takeNat 1 bs
    some (.loadPod i none)
  else
    let (p, bs) ← takePresence 1 bs
    let (i, bs) ← takeNat 1 bs
    let (enable, bs) ← takeNat 1 bs
    let (typ, bs) ← takeNat 1 bs
    let (silence, bs) ← takeOpt (p.testBit 0) 1 bs
    let (retry, bs) ← takeNat 1 bs
    let (off, bs) ← takeNat 2 bs
    let (cool, bs) ← takeNat 2 bs
    let (quiet, bs) ← takeNat 1 bs
    whole (.loadPod i (some ⟨enable, typ, silence, retry, off, cool, quiet⟩)) bs

def parseTemplate (bs : List Byte) : Option Directive := do
  let (i, bs) ← takeNat 1 bs
  if bs.isEmpty then some (.loadTemplate i none) else
  let (n, bs) ← takeNat 1 bs
  let sections ← takeSections n bs
  some (.loadTemplate i (some ⟨n, sections⟩))

/-- The retry, hot and resume limits take one byte each (entry 56). -/
def parsePrinter (bs : List Byte) : Option Directive := do
  let (a, bs) ← takeNat 1 bs
  let (b, bs) ← takeNat 2 bs
  let (c, bs) ← takeNat 2 bs
  let (d, bs) ← takeNat 1 bs
  let (e, bs) ← takeNat 1 bs
  let (f, bs) ← takeNat 1 bs
  whole (.loadPrinter ⟨a, b, c, d, e, f⟩) bs

def parseOpen (bs : List Byte) : Option Directive := do
  let (p, bs) ← takePresence 2 bs
  let (n, bs) ← takeNat 2 bs
  let (wall, bs) ← takeNat 4 bs
  let (site, bs) ← takeOptText (p.testBit 0) bs
  let (crew, bs) ← takeOptText (p.testBit 1) bs
  whole (.openSurvey ⟨n, wall, site, crew⟩) bs

def parseIdentity (bs : List Byte) : Option Directive := do
  let (p, bs) ← takePresence 3 bs
  let (site, bs) ← takeOptText (p.testBit 0) bs
  let (crew, bs) ← takeOptText (p.testBit 1) bs
  let (client, bs) ← takeOptText (p.testBit 2) bs
  whole (.setIdentity ⟨site, crew, client⟩) bs

def parseAddNote (bs : List Byte) : Option Directive := do
  let (p, bs) ← takePresence 4 bs
  let (kind, bs) ← takeNat 1 bs
  let (refer, bs) ← takeOpt (p.testBit 0) 6 bs
  let (sag, bs) ← takeOpt (p.testBit 1) 4 bs
  let (interval, bs) ← takeOpt (p.testBit 2) 4 bs
  let (pod, bs) ← takeOpt (p.testBit 3) 1 bs
  let (text, bs) ← takeText bs
  whole (.addNote ⟨kind, refer, sag, interval, pod, text⟩) bs

/-- R143, R191: every operand but the note number is optional; the second presence byte marks the links given as NONE, in
the same order of bits. -/
def parseAmendNote (bs : List Byte) : Option Directive := do
  let (p, bs) ← takePresence 6 bs
  let (q, bs) ← takePresence 6 bs
  if q.testBit 0 || q.testBit 1 || q.testBit 5 then none else
  let (note, bs) ← takeNat 1 bs
  let (kind, bs) ← takeOpt (p.testBit 0) 1 bs
  let (refer, bs) ← takeOpt (p.testBit 1) 6 bs
  let (sag, bs) ← takeLink (p.testBit 2) (q.testBit 2) 4 bs
  let (interval, bs) ← takeLink (p.testBit 3) (q.testBit 3) 4 bs
  let (pod, bs) ← takeLink (p.testBit 4) (q.testBit 4) 1 bs
  let (text, bs) ← takeOptText (p.testBit 5) bs
  whole (.amendNote note ⟨kind, refer, sag, interval, pod, text⟩) bs

/-- R149: a note number of one byte, or the word IDENTITY as text (entry 24). -/
def parseReadNote (bs : List Byte) : Option Directive :=
  match bs with
  | [n] => some (.readNote (.note n.toNat))
  | _ => do
    let (word, bs) ← takeText bs
    if word = identityWord then whole (.readNote .identity) bs else none

def parseSubmit (bs : List Byte) : Option Directive := do
  let (template, bs) ← takeNat 1 bs
  let (fromTick, bs) ← takeNat 6 bs
  let (toTick, bs) ← takeNat 6 bs
  let (mask, bs) ← takeNat 1 bs
  let (copies, bs) ← takeNat 1 bs
  whole (.submitPrint ⟨template, fromTick, toTick, mask, copies⟩) bs

/-- A directive of one operand. -/
def parseOne (k : Nat) (f : Nat → Directive) (bs : List Byte) : Option Directive := do
  let (n, bs) ← takeNat k bs
  whole (f n) bs

/-- A directive of two operands of one byte. -/
def parseTwo (f : Nat → Nat → Directive) (bs : List Byte) : Option Directive := do
  let (a, bs) ← takeNat 1 bs
  let (b, bs) ← takeNat 1 bs
  whole (f a b) bs

def parsePodWrite (bs : List Byte) : Option Directive := do
  let (a, bs) ← takeNat 1 bs
  let (b, bs) ← takeNat 1 bs
  let (v, bs) ← takeNat 2 bs
  whole (.podWrite a b v) bs

/-- The operand list of the directive of a code (10 "Directives and replies"). The table of R191 does not name the grant window
of LOAD-LINK, which is read as 1 byte, the fewest that hold 0..64 (DEDUCED, unsafe, entry 61). -/
def parseOperands (code : Nat) (bs : List Byte) : Option Directive :=
  match code with
  | 0x01 => parseChannel bs
  | 0x02 => parseGroup bs
  | 0x03 => parseProfile bs
  | 0x04 => parseBins bs
  | 0x05 => parsePod bs
  | 0x06 => parseTemplate bs
  | 0x07 => parsePrinter bs
  | 0x08 => parseOne 1 .loadLink bs
  | 0x09 => parseTwo .readTable bs
  | 0x10 => parseOpen bs
  | 0x11 => whole .closeSurvey bs
  | 0x12 => whole .restart bs
  | 0x20 => parseIdentity bs
  | 0x21 => parseAddNote bs
  | 0x22 => parseAmendNote bs
  | 0x23 => parseOne 1 .withdrawNote bs
  | 0x24 => whole .mark bs
  | 0x25 => parseReadNote bs
  | 0x30 => parseSubmit bs
  | 0x31 => parseOne 2 .cancelPrint bs
  | 0x40 => parseTwo .podRead bs
  | 0x41 => parsePodWrite bs
  | 0x42 => parseOne 1 .podCycle bs
  | 0x43 => parseOne 1 .podRelease bs
  | 0x50 => whole .readKit bs
  | 0x51 => whole .readSnapshot bs
  | 0x52 => whole .clearSnapshot bs
  | 0x53 => whole .clearCounters bs
  | 0x54 => parseOne 1 .clearPeaks bs
  | 0x55 => parseOne 4 .readSag bs
  | _ => none

/-- R176, R191: the directive a payload holds, or none where it is answered BAD_DIRECTIVE: too short for the code and the
operand length, an operand length that is not the rest's, an unknown code, or operands that do not form the directive's
list. -/
def parseDirective (payload : List Byte) : Option Directive := do
  let (code, bs) ← takeNat 1 payload
  let (n, bs) ← takeNat 2 bs
  if bs.length = n then parseOperands code bs else none

/-- The command that a word spells by the table's bits: no row gives any. -/
def decodeTableWord (_nbits _w : Nat) : Option Instr := none

end Sys2Proof
end

