-- ==== Sys2Proof/Config.lean ====
section
/-! DEFINITION. What the part fixes (sizes and times the spec states) and the FREE VALUES: constants with no body,
where the spec gives a step its effect and leaves one value unstated. -/

namespace Sys2Proof.Config

/-- FREE VALUE (entry 14). R46 and R52: when OVERTEMP and INTERNAL are both set in one report, the spec does not say
which of the two the POD notice and the first-fault snapshot name: `true` stands for INTERNAL. -/
opaque bothFaultsNameInternal : Bool

/-- FREE VALUE (entry 20). R158, R160: the printed width (in dashes) of a survey number that is absent. -/
opaque surveyNumberDashes : Nat

/-- FREE VALUE (entry 20). R158, R160: the printed width (in dashes) of an open wall time that is absent. -/
opaque wallTimeDashes : Nat

/-- FREE VALUE (entry 27). R176, R179: the directive code in the BAD_DIRECTIVE reply to a payload of no bytes. -/
opaque absentDirectiveCode : Byte

/-- R9: ticks per second. -/
def ticksPerSecond : Nat := 10240

/-- R9: the survey tick count holds at 2^48 − 1. -/
def tickLimit : Nat := 2 ^ 48 - 1

/-- 00_scope.md "Counters": a counter saturates at 65535. -/
def counterLimit : Nat := 65535

/-- R25, R37: the close of a tick, 80 µs after dispatch, in units of 0.1 µs. -/
def scanDeadline : Nat := 800

/-- R34, R35: ticks of a mode between trials, and before a retry in DOWN. -/
def modePeriod : Nat := 10240

/-- R40: ticks after placement at which an unanswered transaction ends. -/
def transactionTicks : Nat := 2048

/-- R47: covered ticks in POWERING that raise NO_JOIN. -/
def poweringTicks : Nat := 20480

/-- R54: ticks of the drained wait. -/
def drainWaitTicks : Nat := 51200

/-- R147: ticks within which a second pod mark of one position is ignored. -/
def markWindow : Nat := 20480

/-- R107: pages of the capture pool. -/
def capturePages : Nat := 128

/-- R12: the most pages histories may reserve. -/
def historyPages : Nat := 64

/-- R104: sample words of a page. -/
def pageWords : Nat := 1024

/-- R108, R130: entries of the sag list and of the interval list. -/
def sagEntries : Nat := 64
def intervalEntries : Nat := 96

/-- R108, R92, R127: the last sag or interval number. -/
def numberLimit : Nat := 4294967295

/-- R137, R138, R141: notes, text segments, characters of a segment, kept sag records. -/
def noteLimit : Nat := 128
def segmentCount : Nat := 512
def segmentChars : Nat := 32
def keptLimit : Nat := 32

/-- R155: live print jobs. -/
def jobLimit : Nat := 4

/-- R176, R178, R182, R186, R187: depths of the link's queues. -/
def directiveDepth : Nat := 4
def replyDepth : Nat := 8
def noticeDepth : Nat := 16
def recordDepth : Nat := 32
def sampleDepth : Nat := 32

/-- R184, R185: ticks of a block, channels of a portion. -/
def blockTicks : Nat := 32
def portionChannels : Nat := 7

/-- R110: samples of a capture frame. -/
def captureSamples : Nat := 240

/-- R175: ticks between two bytes of one frame, and the longest payload. -/
def byteGapTicks : Nat := 1024
def payloadLimit : Nat := 512

/-- R165, R166, R168 in ticks (R154): the 500 ms reply timer, the 50 ms poll gap, the 1 s held gap. -/
def printReplyTicks : Nat := 5120
def pollGapTicks : Nat := 512
def heldGapTicks : Nat := 10240

end Sys2Proof.Config
end

