-- ==== Sys2Proof/Machine/State.lean ====
section
/-! DEFINITION. The state of the JS-846: every piece of state the spec gives its nine blocks, as plain data, the queue of
waiting commands, the reasons a step can stop, and the state after hardware reset. -/

namespace Sys2Proof.Machine

/-! ## Survey Control (01) -/

/-- R1: what a mapped channel measures. -/
inductive Measure where
  | voltage
  | current
  deriving DecidableEq, Repr

/-- R1: a mapped channel's fields 2 to 7. -/
structure MappedChannel where
  kind : Measure
  range : Nat
  nom : Nat
  declared : Nat
  raw : Bool
  analyse : Bool
  harmonic : Bool
  deriving DecidableEq, Repr

/-- R1: a set channel entry. An UNUSED entry holds its kind alone. -/
inductive ChannelEntry where
  | unused
  | mapped (c : MappedChannel)
  deriving DecidableEq, Repr

/-- R8: the survey states. -/
inductive SurveyState where
  | closed
  | opened
  | closing
  deriving DecidableEq, Repr

/-- R8: the causes of a SURVEY notice. -/
inductive SurveyCause where
  | opened
  | close
  | drained
  | restart
  deriving DecidableEq, Repr

/-- 01: the state of Survey Control. -/
structure Survey where
  channels : Table (Option ChannelEntry) 48
  groups : Table (Option GroupFields) 8
  state : SurveyState
  number : Option Nat
  tick : Nat
  analysing : Bool
  deriving DecidableEq, Repr

/-! ## The Ring Controller (02) -/

/-- 02 "Ring modes". -/
inductive RingMode where
  | forward
  | reverse
  | split
  | search
  | down
  deriving DecidableEq, Repr

/-- R38: the causes of a RING notice. -/
inductive RingCause where
  | fault
  | restart
  | table
  | retry
  | settle
  | heal
  deriving DecidableEq, Repr

/-- R23: the direction of a sweep. -/
inductive Direction where
  | forward
  | reverse
  deriving DecidableEq, Repr

/-- 02 "Channel sample latches". -/
structure Latch where
  value : Int
  gap : Bool
  clip : Bool
  deriving DecidableEq, Repr

/-- R23: the operations of the request slot. -/
inductive TxOp where
  | read
  | write
  | joinRead
  | joinWrite
  deriving DecidableEq, Repr

/-- R39: the client that placed a transaction. A host transaction carries the tag and the directive code of its
reserved reply (R177). -/
inductive TxClient where
  | join
  | host (tag code : Byte)
  deriving DecidableEq, Repr

/-- R39, R40: the transaction in the request slot; `age` counts the ticks begun since its placement. -/
structure Transaction where
  target : Pos
  number : Nat
  op : TxOp
  parameter : Nat
  value : Nat
  client : TxClient
  age : Nat
  deriving DecidableEq, Repr

/-- R24, R34: the three kinds of sweep. -/
inductive SweepKind where
  | regular
  | probe
  | trial
  deriving DecidableEq, Repr

/-- R23: a pod slot of a sweep frame as read back (R190). -/
structure Slot where
  present : Bool
  status : BitVec 16
  samples : List Int
  deriving DecidableEq, Repr

/-- R23 to R25: a sweep dispatched in the tick in progress. `path` is the set of enabled positions it passes (R21),
`request` the copy in its request slot (R40), `returned` its slots once it has returned. -/
structure Sweep where
  kind : SweepKind
  direction : Direction
  turn : Nat
  full : Bool
  path : List Pos
  request : Option Transaction
  returned : Option (List Slot)
  deriving DecidableEq, Repr

/-- R30, R31: where a search stands: at its beginning, at the forward probe to be turned at `turn`, or at the reverse
probe to be turned at `turn` with the forward turn already found. -/
inductive SearchPhase where
  | start
  | forwardProbe (turn : Nat)
  | reverseProbe (found turn : Nat)
  deriving DecidableEq, Repr

/-- 02: the state of the Ring Controller. -/
structure Ring where
  mode : RingMode
  tf : Nat
  tr : Nat
  lastSettled : Option RingMode
  lossForward : Nat
  lossReverse : Nat
  modeTicks : Nat
  search : SearchPhase
  trialDue : Bool
  tickOpen : Bool
  sweeps : List Sweep
  sweepNumber : Nat
  unreachable : Table Bool 12
  loopForward : Table Bool 12
  loopReverse : Table Bool 12
  turnForward : Option Nat
  turnReverse : Option Nat
  scanCurrent : Option Nat
  scanMax : Nat
  scanMin : Option Nat
  lost : Nat
  switches : Nat
  request : Option Transaction
  lastTransaction : Nat
  latches : Table Latch 48
  deriving DecidableEq, Repr

/-! ## The Pod Supervisor (03) -/

/-- R42: a pod table entry. -/
structure PodEntry where
  enable : Bool
  typeCode : Nat
  silence : Nat
  retry : Nat
  offTime : Nat
  cooldown : Nat
  quiet : Nat
  deriving DecidableEq, Repr

/-- R45: the phases of OFF. -/
inductive OffPhase where
  | offTime
  | drainWait
  deriving DecidableEq, Repr

/-- R45: the sequence kinds of OFF. -/
inductive SequenceKind where
  | policy
  | commanded
  | release
  deriving DecidableEq, Repr

/-- R45: the pod states. -/
inductive PodState where
  | disabled
  | powering
  | joining
  | active
  | mismatch
  | off (phase : OffPhase) (kind : SequenceKind)
  | cooldown
  | latched
  deriving DecidableEq, Repr

/-- R52: the fatal causes, which are also the off reasons (10 "Enumerations"). -/
inductive OffReason where
  | silent
  | noJoin
  | overtemp
  | internal
  | commanded
  | feedStuck
  deriving DecidableEq, Repr

/-- R61: the causes of a POD notice. -/
inductive PodCause where
  | table
  | feedOn
  | joined
  | mismatch
  | unreachable
  | silent
  | noJoin
  | overtemp
  | internal
  | commanded
  | feedStuck
  | cooldown
  | release
  | supplyLow
  | present
  | rejoin
  | retryLimit
  deriving DecidableEq, Repr

/-- A running timer: ticks begun since its start, and its length. -/
structure Timer where
  elapsed : Nat
  length : Nat
  deriving DecidableEq, Repr

/-- 03: the record of one position. `timer` is the off timer, the drained wait or the cooldown timer of the state it
is in; `quiet` is the quiet timer, absent while stopped. -/
structure PodRecord where
  state : PodState
  retry : Nat
  silence : Nat
  powering : Nat
  fault : BitVec 16
  history : BitVec 16
  reasons : BitVec 8
  lastReason : Option OffReason
  readings : Table (Option Nat) 5
  mark : Bool
  timer : Option Timer
  quiet : Option Nat
  deriving DecidableEq, Repr

/-- R47, R48: a pending join transaction of one position: a read of parameter 0..4, or the write of parameter 5. -/
structure JoinTransaction where
  position : Pos
  parameter : Nat
  deriving DecidableEq, Repr

/-- R63: what the kit report copies from the owning blocks. -/
structure KitReport where
  pods : Table PodRecord 12
  unreachable : Table Bool 12
  loopForward : Table Bool 12
  loopReverse : Table Bool 12
  mode : RingMode
  tf : Nat
  tr : Nat
  turnForward : Option Nat
  turnReverse : Option Nat
  scanCurrent : Option Nat
  scanMax : Nat
  scanMin : Option Nat
  lost : Nat
  switches : Nat
  markLost : Nat
  linkErrors : Nat
  overruns : Nat
  sampleDrops : Nat
  noticeLosses : Nat
  deriving DecidableEq, Repr

/-- R62: the cause of a snapshot. -/
inductive SnapshotCause where
  | pod (reason : OffReason)
  | ringFault
  deriving DecidableEq, Repr

/-- R62: a latched first-fault snapshot. -/
structure Snapshot where
  kit : KitReport
  cause : SnapshotCause
  position : Option Pos
  tick : Nat
  deriving DecidableEq, Repr

/-- 03: the state of the Pod Supervisor, with the feed-drained input pins. -/
structure Pods where
  table : Table (Option PodEntry) 12
  records : Table PodRecord 12
  joins : List JoinTransaction
  drained : Table Bool 12
  snapshot : Option Snapshot
  deriving DecidableEq, Repr

/-! ## The Cycle Trackers (04) -/

/-- R65: the tracker states. -/
inductive TrackerState where
  | lost
  | acquiring
  | locked
  | flywheel
  deriving DecidableEq, Repr

/-- R67: the sign of the reference. -/
inductive Sign where
  | negative
  | nonNegative
  deriving DecidableEq, Repr

/-- R67, R79: the sign of a crossing or boundary. -/
inductive Edge where
  | rising
  | falling
  deriving DecidableEq, Repr

/-- R79: the kinds of boundary. -/
inductive BoundaryKind where
  | origin
  | timed
  | forced
  | wheel
  | crossing
  deriving DecidableEq, Repr

/-- R73, R76, R77: the timed kinds of boundary, each placed by a step of its own. -/
inductive DueKind where
  | timed
  | forced
  | wheel
  deriving DecidableEq, Repr

/-- R82: the causes of a TRACKER notice. -/
inductive TrackerCause where
  | lock
  | relock
  | window
  | limit
  deriving DecidableEq, Repr

/-- R65: the boundary from which offsets are measured. -/
structure LastBoundary where
  tick : Nat
  edge : Edge
  kind : BoundaryKind
  deriving DecidableEq, Repr

/-- R79: the flags of a half-cycle. -/
structure HalfFlags where
  tracked : Bool
  flywheel : Bool
  nominal : Bool
  resync : Bool
  short : Bool
  deriving DecidableEq, Repr

/-- R79: what the announcement of a boundary carries to the group's consumers. `length` is absent for the origin;
`cycleStart` is the start tick of the cycle it closes, when it closes one (R80). -/
structure Boundary where
  tick : Nat
  edge : Edge
  kind : BoundaryKind
  resync : Bool
  length : Option Nat
  flags : HalfFlags
  cycleStart : Option Nat
  state : TrackerState
  period : Nat
  deriving DecidableEq, Repr

/-- R65: the state of one tracker. `period` is the filtered half-period in sixteenths of a sample. `due` marks a timed
boundary whose step has not been taken yet (entry 8). -/
structure Tracker where
  state : TrackerState
  settled : Option Sign
  run : Nat
  runStart : Nat
  history : List Nat
  period : Nat
  mask : Nat
  limit : Nat
  residue : Nat
  nextLength : Nat
  last : Option LastBoundary
  before : Option (Nat × Edge)
  anchor : Option Nat
  intervals : List Nat
  accepted : Nat
  flywheelCount : Nat
  flywheelEntries : Nat
  due : Option DueKind
  deriving DecidableEq, Repr

/-! ## The Event Detector (05) -/

/-- A latch as routing delivers it (R19, R20). -/
abbrev Sample := Latch

/-- 05 "Channel conditions". -/
inductive Condition where
  | normal
  | sag
  | interruption
  | swell
  deriving DecidableEq, Repr

/-- R86, R88: the running sum, gap count and clip mark of one voltage member's half-cycle, and its condition. -/
structure MemberState where
  sum : Nat
  gaps : Nat
  clip : Bool
  condition : Condition
  deriving DecidableEq, Repr

/-- 05 "The group event machine". -/
inductive MachineState where
  | quiet
  | active
  | post
  | latched
  deriving DecidableEq, Repr

/-- R103: the flags of a sag record. -/
structure EventFlags where
  gap : Bool
  nominal : Bool
  flywheel : Bool
  clipped : Bool
  cut : Bool
  postShort : Bool
  bodyCut : Bool
  truncated : Bool
  swellAlso : Bool
  deriving DecidableEq, Repr

/-- R105, R106: the capture of an event in progress: the rows stored, oldest first, the row counts of its three
windows, the body half-cycles stored, the pages it holds, and whether it has stopped for good. -/
structure Capture where
  rows : List (List Int)
  pre : Nat
  body : Nat
  post : Nat
  bodyHalves : Nat
  pages : List Nat
  stopped : Bool
  deriving DecidableEq, Repr

/-- R90: the event in progress. `extremes` holds, per voltage member, the minimum and maximum U once evaluated. -/
structure Event where
  number : Option Nat
  recorded : Bool
  start : Nat
  stop : Option Nat
  halves : Nat
  extremes : List (Option (Nat × Nat))
  involved : List Nat
  allInterruption : Bool
  sagMark : Bool
  swellMark : Bool
  flags : EventFlags
  capture : Capture
  burst : Option (Nat × Nat)
  postLeft : Nat
  deriving DecidableEq, Repr

/-- R99: the burst state of a group, with the sag number of its last event to start. -/
structure Burst where
  id : Option Nat
  position : Nat
  lastStop : Option Nat
  lastNumber : Option Nat
  deriving DecidableEq, Repr

/-- R100: the span record of a group. -/
structure SpanRecord where
  start : Option Nat
  spans : List (Nat × Nat)
  deriving DecidableEq, Repr

/-- R86, R90, R104: the Event Detector's state of one group. -/
structure GroupEvents where
  delay : List (List Sample)
  members : List MemberState
  buffer : List (List Int)
  machine : MachineState
  event : Option Event
  burst : Burst
  span : SpanRecord
  ring : List (List Int)
  ringLengths : List Nat
  reserved : List Nat
  deriving DecidableEq, Repr

/-- R101: the kinds of sag record. -/
inductive SagKind where
  | sag
  | interruption
  | swell
  deriving DecidableEq, Repr

/-- R103: the capture descriptor. -/
structure CaptureDescriptor where
  members : List Nat
  pre : Nat
  body : Nat
  post : Nat
  deriving DecidableEq, Repr

/-- R103: a completed sag record. -/
structure SagRecord where
  number : Nat
  group : Nat
  kind : SagKind
  start : Nat
  halves : Nat
  ms : Nat
  residual : Nat
  worst : Nat
  involved : List Nat
  extremes : List (Nat × Nat)
  maximum : Option Nat
  burst : Option (Nat × Nat)
  flags : EventFlags
  capture : Option CaptureDescriptor
  lostBefore : Nat
  deriving DecidableEq, Repr

/-- R108: the state of a sag list entry. An OPEN entry's record is not complete. `again` marks an entry that READ-SAG
returned to UNSENT (R111). -/
inductive SagStatus where
  | opened
  | unsent (again : Bool) (record : SagRecord)
  | sent (record : SagRecord)
  deriving DecidableEq, Repr

/-- R108: an entry of the sag list that is not free. -/
structure SagEntry where
  number : Nat
  status : SagStatus
  pages : List Nat
  rows : List (List Int)
  pins : Nat
  keeps : Nat
  deriving DecidableEq, Repr

/-- R110, R132: the entry being emitted and the frame to be offered next. -/
structure Emission where
  number : Nat
  frame : Nat
  deriving DecidableEq, Repr

/-- 05: the state of the Event Detector. The sag list holds its entries that are not free, by rising number. -/
structure Events where
  profiles : Table (Option ProfileFields) 8
  groups : Table GroupEvents 8
  sags : List SagEntry
  freePages : List Nat
  lastSag : Nat
  unrecorded : Nat
  emission : Option Emission
  deriving DecidableEq, Repr

/-! ## The Harmonic Analyser (06) -/

/-- R118: a closed cycle awaiting settlement; per analysed member the amplitudes of order 1 and the listed orders where
the cycle is valid for it. -/
structure PendingCycle where
  start : Nat
  stop : Nat
  amplitudes : List (Option (List Nat))
  deriving DecidableEq, Repr

/-- R116: the block accumulator. -/
structure BlockSums where
  sums : List (List Nat)
  valid : List Nat
  cycles : Nat
  event : Bool
  deriving DecidableEq, Repr

/-- R116: the interval accumulator. -/
structure IntervalSums where
  sums : List (List Nat)
  total : Nat
  used : Nat
  flagged : Nat
  invalid : Nat
  start : Option Nat
  deriving DecidableEq, Repr

/-- R128: the summary of one member and one order. -/
structure SummaryCell where
  peak : Nat
  minimum : Option Nat
  ratio : Option Nat
  exceedances : Nat
  deriving DecidableEq, Repr

/-- R128: a group summary: the members and listed orders it records, and per member a cell for order 1 and each listed
order. -/
structure GroupSummary where
  members : List Nat
  orders : List Nat
  cells : List (List SummaryCell)
  deriving DecidableEq, Repr

/-- R116: the Harmonic Analyser's state of one group. -/
structure GroupHarmonics where
  delay : List (List Sample)
  buffer : List (List Sample)
  overlong : Bool
  halves : List HalfFlags
  pending : Option PendingCycle
  block : BlockSums
  interval : IntervalSums
  summary : GroupSummary
  deriving DecidableEq, Repr

/-- R127: one listed order of a channel section. -/
structure OrderValue where
  order : Nat
  value : Nat
  ratio : Option Nat
  deriving DecidableEq, Repr

/-- R127: a channel section of an interval record. -/
structure ChannelSection where
  channel : Nat
  fundamental : Option Nat
  orders : List OrderValue
  thd : Option Nat
  exceeded : List Nat
  deriving DecidableEq, Repr

/-- R127: an interval record. -/
structure IntervalRecord where
  number : Nat
  group : Nat
  start : Nat
  stop : Nat
  total : Nat
  used : Nat
  flagged : Nat
  invalid : Nat
  frequency : Nat
  isEmpty : Bool
  isPartial : Bool
  lowFund : Bool
  sections : List ChannelSection
  lostBefore : Nat
  deriving DecidableEq, Repr

/-- R130: an entry of the interval list that is not free. -/
structure IntervalEntry where
  record : IntervalRecord
  sent : Bool
  pins : Nat
  deriving DecidableEq, Repr

/-- 06: the state of the Harmonic Analyser. -/
structure Harmonics where
  binSets : Table (Option BinFields) 4
  groups : Table GroupHarmonics 8
  intervals : List IntervalEntry
  lastInterval : Nat
  lost : Nat
  emission : Option Emission
  deriving DecidableEq, Repr

/-! ## The Note Store (07) -/

/-- R135: the survey identity. A field's written mark is set exactly when the field is present (entry 34). -/
structure Identity where
  number : Option Nat
  wall : Option Nat
  site : Option (List Byte)
  crew : Option (List Byte)
  client : Option (List Byte)
  deriving DecidableEq, Repr

/-- R137: the note kinds. -/
inductive NoteKind where
  | observation
  | location
  | customer
  | equipment
  | photoRef
  | mark
  deriving DecidableEq, Repr

/-- R137: a sag link with its keep state. -/
structure SagLink where
  sag : Nat
  kept : Bool
  deriving DecidableEq, Repr

/-- R137: the states of a note. -/
inductive NoteState where
  | live
  | amended (successor : Nat)
  | withdrawn
  deriving DecidableEq, Repr

/-- R138: a text segment: up to 32 characters, and the next segment of its chain. -/
structure Segment where
  chars : List Byte
  next : Option Nat
  deriving DecidableEq, Repr

/-- R137: a note. `chain` is the first segment of its text, `length` the characters of its text. -/
structure Note where
  kind : NoteKind
  made : Nat
  refer : Nat
  sag : Option SagLink
  interval : Option Nat
  pod : Option Pos
  chain : Option Nat
  length : Nat
  predecessor : Option Nat
  state : NoteState
  deriving DecidableEq, Repr

/-- 07: the state of the Note Store. Note n stands at place n − 1 of `notes`; `segments` holds the segments taken, in
the order taken; `kept` pairs each kept sag number with its count. -/
structure Notes where
  identity : Identity
  notes : List Note
  segments : List Segment
  kept : List (Nat × Nat)
  pending : List Nat
  lastMark : Table (Option Nat) 12
  markLost : Nat
  deriving DecidableEq, Repr

/-! ## The Print Controller (08) -/

/-- R152: the filter operands of SAG_LIST and SAG_DETAIL. `kinds` has bit 0 SAG, 1 INTERRUPTION, 2 SWELL. -/
structure SagFilter where
  groups : Nat
  kinds : Nat
  maxResidual : Nat
  deriving DecidableEq, Repr

/-- R152: a template section. -/
inductive Sect where
  | title
  | kit
  | sagList (f : SagFilter)
  | sagDetail (f : SagFilter)
  | harmonicTable (groups : Nat)
  | harmonicPeaks (groups : Nat)
  | notes (kinds : Nat)
  | signOff (lines : Nat)
  | feed (dots : Nat)
  deriving DecidableEq, Repr

/-- R165: the messages of the printer line. -/
inductive Message where
  | query
  | text (line : List Byte)
  | dots (rows : List (List Bool))
  | feed (lines : Nat)
  deriving DecidableEq, Repr

/-- R155: the held reasons. -/
inductive HeldReason where
  | paper
  | hot
  | noReply
  deriving DecidableEq, Repr

/-- R155: the states of a live job. -/
inductive JobState where
  | queued
  | printing
  | held (reason : HeldReason)
  deriving DecidableEq, Repr

/-- R169: how a job ends, with its end reason. -/
inductive JobEnding where
  | done
  | cancelledHost
  | cancelledRestart
  | failedNoReply
  | failedPaper
  | failedHot
  | failedBusy
  | failedFault (code : Nat)
  deriving DecidableEq, Repr

/-- R155: a print job record. Its place is the message to be sent next or interrupted (`current`, with `retries`), the
messages of the section in progress still to come (`rest`), and the place of the next section in the template. `printTick`
is the print tick of the copy in progress (R159), `held` the ticks begun since the held-limit reference. -/
structure Job where
  number : Nat
  template : Nat
  fromTick : Nat
  toTick : Nat
  mask : Nat
  copies : Nat
  copy : Nat
  state : JobState
  sags : List Nat
  intervals : List Nat
  notRetained : Nat
  cancel : Bool
  current : Message
  rest : List Message
  nextSect : Nat
  printTick : Nat
  retries : Nat
  held : Nat
  deriving DecidableEq, Repr

/-- R165: the answering state. -/
inductive Answering where
  | unknown
  | answering
  | notAnswering
  deriving DecidableEq, Repr

/-- R165 to R168, R170: what the job PRINTING or HELD is waiting for: the STATUS of its message, of a poll for it, of a
held poll or of the FEED of a cancel (with the ticks since the send), or the end of a retry interval, a poll gap, a held
gap or a cooldown. -/
inductive Exchange where
  | idle
  | message (elapsed : Nat)
  | poll (elapsed : Nat)
  | heldPoll (elapsed : Nat)
  | cancelFeed (elapsed : Nat)
  | retryWait (timer : Timer)
  | pollGap (elapsed : Nat)
  | heldGap (elapsed : Nat)
  | cooldown (timer : Timer)
  deriving DecidableEq, Repr

/-- 08: the state of the Print Controller. `jobs` holds the live jobs, oldest first. -/
structure Printer where
  templates : Table (Option (List Sect)) 4
  settings : PrinterFields
  jobs : List Job
  lastJob : Nat
  status : Option PrinterStatus
  answering : Answering
  hot : Bool
  exchange : Exchange
  lineBuffer : List Byte
  deriving DecidableEq, Repr

/-! ## The Station Link Interface (09) -/

/-- R175: the receiver: hunting (with the last byte 0xA5 or not), or in a frame with its bytes after the sync pair and
the ticks begun since the last byte. -/
inductive Receiver where
  | hunting (armed : Bool)
  | inFrame (bytes : List Byte) (gap : Nat)
  deriving DecidableEq, Repr

/-- R176: a directive in the queue. -/
structure QueuedDirective where
  tag : Byte
  payload : List Byte
  deriving DecidableEq, Repr

/-- R179: the result codes, in the order of their table. -/
inductive ResultCode where
  | ok
  | badDirective
  | badValue
  | badTable
  | badState
  | locked
  | notOpen
  | busy
  | noRoom
  | alreadySet
  | unknownItem
  | podUnavailable
  | podRefused
  | noAnswer
  | aborted
  deriving DecidableEq, Repr

/-- R179: a reply. -/
structure Reply where
  tag : Byte
  code : Byte
  result : ResultCode
  data : List Byte
  overrun : Nat
  deriving DecidableEq, Repr

/-- R187: the content of a notice, as its owner's rule lists it (R8, R38, R61, R82, R165, R169). -/
inductive NoticeBody where
  | pod (position : Pos) (previous next : PodState) (cause : PodCause) (retry : Nat) (flags : List Bool)
  | ring (mode : RingMode) (cause : RingCause) (tf tr : Nat) (loopForward loopReverse unreachable : Table Bool 12)
  | tracker (group : Grp) (previous next : TrackerState) (cause : TrackerCause) (boundary period frequency entries : Nat)
  | survey (state : SurveyState) (number : Option Nat) (cause : SurveyCause)
  | job (number : Nat) (ending : JobEnding) (copy : Nat)
  | printer (status : Option PrinterStatus) (answers : Answering) (hot : Bool) (job : Option Nat)
  deriving DecidableEq, Repr

/-- R187: a notice with the survey tick count at its offer. -/
structure Notice where
  tick : Nat
  body : NoticeBody
  deriving DecidableEq, Repr

/-- R150: a note as its record frame carries it, built when the frame is offered. -/
structure NoteBody where
  number : Nat
  note : Note
  text : List Byte
  deriving DecidableEq, Repr

/-- R182: a frame of the record queue. -/
inductive RecordFrame where
  | sag (record : SagRecord) (again : Bool)
  | capture (sag channel first : Nat) (samples : List Int)
  | interval (record : IntervalRecord) (part parts : Nat) (sections : List ChannelSection)
  | note (body : NoteBody)
  deriving DecidableEq, Repr

/-- R185: a sample frame. `samples` holds, tick by tick, the values in channel order. -/
structure SampleFrame where
  first : Nat
  ticks : Nat
  portion : Nat
  portions : Nat
  drops : Nat
  channels : List Nat
  gaps : List Nat
  samples : List (List Int)
  deriving DecidableEq, Repr

/-- R184: the block in formation: per tick, the value and gap flag of each channel. -/
structure Block where
  first : Nat
  channels : List Nat
  rows : List (List (Int × Bool))
  deriving DecidableEq, Repr

/-- 09: the state of the Station Link Interface. `replies` holds the full entries in the order they became full,
`reserved` the tag and directive code of the reserved entry. `rawHold` is the RAW set the tick in progress is still to be
taken with, after a LOAD-CHANNEL changed the set (R184). `transmitting` is the frame in transmission, whole. -/
structure Link where
  receiver : Receiver
  directives : List QueuedDirective
  overrun : Nat
  replies : List Reply
  reserved : Option (Byte × Byte)
  notices : List Notice
  lostNotices : Nat
  records : List RecordFrame
  samples : List SampleFrame
  drops : Nat
  block : Option Block
  rawHold : Option (List Nat)
  grant : Nat
  grantCount : Nat
  sequence : Nat
  linkErrors : Nat
  overruns : Nat
  sampleDrops : Nat
  noticeLosses : Nat
  transmitting : Option (List Byte)
  deriving DecidableEq, Repr

/-! ## The whole state -/

/-- The JS-846: its nine blocks, and the commands that are waiting, first in, first out. -/
structure State where
  pending : List Instr
  survey : Survey
  ring : Ring
  pods : Pods
  trackers : Table Tracker 8
  events : Events
  harmonics : Harmonics
  notes : Notes
  printer : Printer
  link : Link
  deriving DecidableEq, Repr

/-- Reasons a step could stop with a fault. There is none: the spec gives every step of the opcode table an effect, and a
step whose condition does not hold changes nothing (entry 1). Safe. -/
inductive Fault where
  deriving DecidableEq, Repr

/-- Reasons a step could be refused. -/
inductive Refusal where
  /-- Raised by `exec` alone, for a command that has no meaning yet. No arm raises it. Safe. -/
  | notModelled (mnemonic : String)
  deriving DecidableEq, Repr

/-! ## Hardware reset (R17, R41, R64, R83, R113, R134, R151, R172, R189)

A value no rule gives is marked DESIGN CHOICE in entry 33. -/

def Survey.reset : Survey where
  channels := Table.replicate 48 none
  groups := Table.replicate 8 none
  state := .closed
  number := none
  tick := 0
  analysing := false

def Ring.reset : Ring where
  mode := .search
  tf := 0
  tr := 0
  lastSettled := none
  lossForward := 0
  lossReverse := 0
  modeTicks := 0
  search := .start
  trialDue := false
  tickOpen := false
  sweeps := []
  sweepNumber := 0
  unreachable := Table.replicate 12 false
  loopForward := Table.replicate 12 false
  loopReverse := Table.replicate 12 false
  turnForward := none
  turnReverse := none
  scanCurrent := none
  scanMax := 0
  scanMin := none
  lost := 0
  switches := 0
  request := none
  lastTransaction := 255
  latches := Table.replicate 48 ⟨0, true, false⟩

def PodRecord.reset : PodRecord where
  state := .disabled
  retry := 0
  silence := 0
  powering := 0
  fault := 0
  history := 0
  reasons := 0
  lastReason := none
  readings := Table.replicate 5 none
  mark := false
  timer := none
  quiet := none

def Pods.reset : Pods where
  table := Table.replicate 12 none
  records := Table.replicate 12 PodRecord.reset
  joins := []
  drained := Table.replicate 12 false
  snapshot := none

def Tracker.reset : Tracker where
  state := .lost
  settled := none
  run := 0
  runStart := 0
  history := []
  period := 1638
  mask := 0
  limit := 0
  residue := 0
  nextLength := 102
  last := none
  before := none
  anchor := none
  intervals := []
  accepted := 0
  flywheelCount := 0
  flywheelEntries := 0
  due := none

def GroupEvents.reset : GroupEvents where
  delay := []
  members := []
  buffer := []
  machine := .quiet
  event := none
  burst := ⟨none, 0, none, none⟩
  span := ⟨none, []⟩
  ring := []
  ringLengths := []
  reserved := []

def Events.reset : Events where
  profiles := Table.replicate 8 none
  groups := Table.replicate 8 GroupEvents.reset
  sags := []
  freePages := List.range Config.capturePages
  lastSag := 0
  unrecorded := 0
  emission := none

def GroupHarmonics.reset : GroupHarmonics where
  delay := []
  buffer := []
  overlong := false
  halves := []
  pending := none
  block := ⟨[], [], 0, false⟩
  interval := ⟨[], 0, 0, 0, 0, none⟩
  summary := ⟨[], [], []⟩

def Harmonics.reset : Harmonics where
  binSets := Table.replicate 4 none
  groups := Table.replicate 8 GroupHarmonics.reset
  intervals := []
  lastInterval := 0
  lost := 0
  emission := none

def Notes.reset : Notes where
  identity := ⟨none, none, none, none, none⟩
  notes := []
  segments := []
  kept := []
  pending := []
  lastMark := Table.replicate 12 none
  markLost := 0

def Printer.reset : Printer where
  templates := Table.replicate 4 none
  settings := ⟨2, 1000, 30, 70, 60, 10⟩
  jobs := []
  lastJob := 0
  status := none
  answering := .unknown
  hot := false
  exchange := .idle
  lineBuffer := []

def Link.reset : Link where
  receiver := .hunting false
  directives := []
  overrun := 0
  replies := []
  reserved := none
  notices := []
  lostNotices := 0
  records := []
  samples := []
  drops := 0
  block := none
  rawHold := none
  grant := 8
  grantCount := 0
  sequence := 0
  linkErrors := 0
  overruns := 0
  sampleDrops := 0
  noticeLosses := 0
  transmitting := none

/-- The machine right after hardware reset, with no command waiting. -/
def State.reset : State where
  pending := []
  survey := Survey.reset
  ring := Ring.reset
  pods := Pods.reset
  trackers := Table.replicate 8 Tracker.reset
  events := Events.reset
  harmonics := Harmonics.reset
  notes := Notes.reset
  printer := Printer.reset
  link := Link.reset

end Sys2Proof.Machine
end

