-- ==== Sys2Proof/Machine/Arith.lean ====
section
/-! DEFINITION. Integer arithmetic of 00_scope.md "Quantities", byte order (most significant byte first, 10), the CRC of
R174, and small list helpers. -/

namespace Sys2Proof.Machine

/-- 00_scope.md "Counters": one more, saturating at 65535. -/
def bump (n : Nat) : Nat := min (n + 1) Config.counterLimit

/-- `k` more, saturating at 65535. -/
def bumpBy (n k : Nat) : Nat := min (n + k) Config.counterLimit

/-- `k` more of a count of 0..255 that saturates (R176, R186, R187). -/
def bump8 (n k : Nat) : Nat := min (n + k) 255

/-- A value saturated at 65535 (00_scope.md "Basis points"). -/
def sat16 (n : Nat) : Nat := min n 65535

/-- ceil(a / b) for b > 0. -/
def ceilDiv (a b : Nat) : Nat := (a + b - 1) / b

/-- The bits of the square root of `n`, from bit `k − 1` down, added to the root `r` found so far. -/
def isqrtFrom (n : Nat) : Nat → Nat → Nat
  | 0, r => r
  | k + 1, r => isqrtFrom n k (if (r + 2 ^ k) * (r + 2 ^ k) ≤ n then r + 2 ^ k else r)

/-- 00_scope.md "Integer arithmetic": the largest integer whose square is at most `n`. -/
def isqrt (n : Nat) : Nat := isqrtFrom n (n.log2 / 2 + 1) 0

/-- R42, R84, R154: milliseconds in ticks, floor(t × 1024 / 100). -/
def msTicks (t : Nat) : Nat := t * 1024 / 100

/-- Seconds in ticks. -/
def secondTicks (t : Nat) : Nat := t * Config.ticksPerSecond

/-- R154: minutes in ticks. -/
def minuteTicks (t : Nat) : Nat := t * 614400

/-! ## Bytes -/

/-- A field of one byte. -/
def u8 (n : Nat) : List Byte := [BitVec.ofNat 8 n]

/-- A field of two bytes. -/
def u16 (n : Nat) : List Byte := [BitVec.ofNat 8 (n / 256), BitVec.ofNat 8 n]

/-- A field of three bytes (H16 values, R191). -/
def u24 (n : Nat) : List Byte := BitVec.ofNat 8 (n / 65536) :: u16 n

/-- A field of four bytes. -/
def u32 (n : Nat) : List Byte := u16 (n / 65536) ++ u16 n

/-- A field of six bytes: a survey tick count (R191). -/
def u48 (n : Nat) : List Byte := u16 (n / 4294967296) ++ u32 n

/-- A signed 16-bit sample code. -/
def sampleBytes (x : Int) : List Byte := u16 (x % 65536).toNat

/-- The unsigned number of big-endian bytes. -/
def beNat (bs : List Byte) : Nat := bs.foldl (fun n b => n * 256 + b.toNat) 0

/-- The signed 16-bit value of an unsigned one. -/
def signed16 (n : Nat) : Int := if n < 32768 then (n : Int) else (n : Int) - 65536

/-- Text on the link: a two-byte length and the characters (R191). -/
def textBytes (t : List Byte) : List Byte := u16 t.length ++ t

/-- A presence byte (R191, R192): bit i set when the (i + 1)-th item is present. -/
def presence (items : List Bool) : Nat :=
  items.foldr (fun b n => n * 2 + b.toNat) 0

/-! ## The check sequence -/

/-- R174: one bit of the CRC register, polynomial x^16 + x^12 + x^5 + 1. -/
def crcBit (r : BitVec 16) : BitVec 16 :=
  if r.msb then (r <<< 1) ^^^ 0x1021#16 else r <<< 1

/-- R174: one byte, most significant bit first. -/
def crcByte (r : BitVec 16) (b : Byte) : BitVec 16 :=
  Nat.repeat crcBit 8 (r ^^^ (b.setWidth 16 <<< 8))

/-- R174: the CRC over bytes, register started at 0xFFFF. -/
def crc (bs : List Byte) : BitVec 16 := bs.foldl crcByte 0xFFFF#16

/-! ## Lists -/

/-- The entry at place `i`, or `d` beyond the end. -/
def nth {α : Type} (d : α) (l : List α) (i : Nat) : α := l.getD i d

/-- The list cut into pieces of `n`, with `fuel` at least the number of pieces. -/
def piecesFrom {α : Type} (n : Nat) : Nat → List α → List (List α)
  | 0, _ => []
  | _ + 1, [] => []
  | fuel + 1, x :: xs => (x :: xs).take n :: piecesFrom n fuel ((x :: xs).drop n)

/-- The list cut into pieces of `n` (n > 0), the last holding the rest. -/
def pieces {α : Type} (n : Nat) (l : List α) : List (List α) := piecesFrom n l.length l

/-- The last `n` of a list. -/
def takeLast {α : Type} (n : Nat) (l : List α) : List α := l.drop (l.length - n)

/-- Insertion into a rising list without repeats. -/
def insertRising (x : Nat) : List Nat → List Nat
  | [] => [x]
  | y :: ys => if x < y then x :: y :: ys else if x = y then y :: ys else y :: insertRising x ys

/-- The smallest of a list. -/
def smallest : List Nat → Option Nat
  | [] => none
  | x :: xs => some (xs.foldl min x)

/-- The largest of a list. -/
def largest : List Nat → Option Nat
  | [] => none
  | x :: xs => some (xs.foldl max x)

end Sys2Proof.Machine
end

