-- ==== Sys2Proof/Machine/Operands.lean ====
section
/-! DEFINITION. The operand forms of the directives: enumeration codes (10 "Enumerations", R192 for those the table does
not code), the common checks of a table load (R5) and the ranges and cross-field checks of each table (R1 to R4, R42, R84,
R85, R114, R115, R152 to R154). -/

namespace Sys2Proof.Machine

/-! ## Codes -/

/-- R192: YES and NO by their place in the list of R1. -/
def yesNo (n : Nat) : Option Bool :=
  if n = 1 then some true else if n = 2 then some false else none

def codeYesNo (b : Bool) : Nat := if b then 1 else 2

def codeMeasure : Measure → Nat
  | .voltage => 1
  | .current => 2

def codeSurveyState : SurveyState → Nat
  | .closed => 1
  | .opened => 2
  | .closing => 3

def codeSurveyCause : SurveyCause → Nat
  | .opened => 1
  | .close => 2
  | .drained => 3
  | .restart => 4

def codeRingMode : RingMode → Nat
  | .forward => 1
  | .reverse => 2
  | .split => 3
  | .search => 4
  | .down => 5

def codeRingCause : RingCause → Nat
  | .fault => 1
  | .restart => 2
  | .table => 3
  | .retry => 4
  | .settle => 5
  | .heal => 6

def codeDirection : Direction → Nat
  | .forward => 0
  | .reverse => 1

def codeTxOp : TxOp → Nat
  | .read => 0
  | .write => 1
  | .joinRead => 2
  | .joinWrite => 3

def codePodState : PodState → Nat
  | .disabled => 0
  | .powering => 1
  | .joining => 2
  | .active => 3
  | .mismatch => 4
  | .off _ _ => 5
  | .cooldown => 6
  | .latched => 7

/-- 10 "The kit report": the OFF byte. -/
def codeOff : PodState → Nat
  | .off phase kind =>
    (match phase with | .offTime => 16 | .drainWait => 32) +
    (match kind with | .policy => 1 | .commanded => 2 | .release => 3)
  | _ => 0

/-- 10 "Enumerations": the bit of an off reason; its last-reason code is one more. -/
def reasonBit : OffReason → Nat
  | .silent => 0
  | .noJoin => 1
  | .overtemp => 2
  | .internal => 3
  | .commanded => 4
  | .feedStuck => 5

def codeLastReason : Option OffReason → Nat
  | none => 0
  | some r => reasonBit r + 1

def codeSnapshotCause : SnapshotCause → Nat
  | .pod r => reasonBit r + 1
  | .ringFault => 7

def codePodCause : PodCause → Nat
  | .table => 1
  | .feedOn => 2
  | .joined => 3
  | .mismatch => 4
  | .unreachable => 5
  | .silent => 6
  | .noJoin => 7
  | .overtemp => 8
  | .internal => 9
  | .commanded => 10
  | .feedStuck => 11
  | .cooldown => 12
  | .release => 13
  | .supplyLow => 14
  | .present => 15
  | .rejoin => 16
  | .retryLimit => 17

/-- R61: the notice cause of a fatal cause. -/
def reasonCause : OffReason → PodCause
  | .silent => .silent
  | .noJoin => .noJoin
  | .overtemp => .overtemp
  | .internal => .internal
  | .commanded => .commanded
  | .feedStuck => .feedStuck

def codeTrackerState : TrackerState → Nat
  | .lost => 1
  | .acquiring => 2
  | .locked => 3
  | .flywheel => 4

def codeTrackerCause : TrackerCause → Nat
  | .lock => 1
  | .relock => 2
  | .window => 3
  | .limit => 4

def codeSagKind : SagKind → Nat
  | .sag => 1
  | .interruption => 2
  | .swell => 3

def codeNoteKind : NoteKind → Nat
  | .observation => 1
  | .location => 2
  | .customer => 3
  | .equipment => 4
  | .photoRef => 5
  | .mark => 6

/-- R139, R143: a crew kind by its code; MARK and unknown codes are none. -/
def crewKind (n : Nat) : Option NoteKind :=
  match n with
  | 1 => some .observation
  | 2 => some .location
  | 3 => some .customer
  | 4 => some .equipment
  | 5 => some .photoRef
  | _ => none

def codeNoteState : NoteState → Nat
  | .live => 1
  | .amended _ => 2
  | .withdrawn => 3

def codeJobState : JobState → Nat
  | .queued => 1
  | .printing => 2
  | .held _ => 3

def codeAnswering : Answering → Nat
  | .answering => 1
  | .notAnswering => 2
  | .unknown => 3

/-- R169: the end state by its place in the table of R169. -/
def codeEndState : JobEnding → Nat
  | .done => 1
  | .cancelledHost | .cancelledRestart => 2
  | _ => 3

/-- R169: the end reason by its place in the table of R169; none for DONE. -/
def codeEndReason : JobEnding → Option Nat
  | .done => none
  | .cancelledHost => some 1
  | .cancelledRestart => some 2
  | .failedNoReply => some 3
  | .failedPaper => some 4
  | .failedHot => some 5
  | .failedBusy => some 6
  | .failedFault _ => some 7

def codeResult : ResultCode → Nat
  | .ok => 0
  | .badDirective => 1
  | .badValue => 2
  | .badTable => 3
  | .badState => 4
  | .locked => 5
  | .notOpen => 6
  | .busy => 7
  | .noRoom => 8
  | .alreadySet => 9
  | .unknownItem => 10
  | .podUnavailable => 11
  | .podRefused => 12
  | .noAnswer => 13
  | .aborted => 14

/-- 10 "Directives and replies": the directive codes. -/
def codeDirective : Directive → Byte
  | .loadChannel .. => 0x01
  | .loadGroup .. => 0x02
  | .loadProfile .. => 0x03
  | .loadBins .. => 0x04
  | .loadPod .. => 0x05
  | .loadTemplate .. => 0x06
  | .loadPrinter .. => 0x07
  | .loadLink .. => 0x08
  | .readTable .. => 0x09
  | .openSurvey .. => 0x10
  | .closeSurvey => 0x11
  | .restart => 0x12
  | .setIdentity .. => 0x20
  | .addNote .. => 0x21
  | .amendNote .. => 0x22
  | .withdrawNote .. => 0x23
  | .mark => 0x24
  | .readNote .. => 0x25
  | .submitPrint .. => 0x30
  | .cancelPrint .. => 0x31
  | .podRead .. => 0x40
  | .podWrite .. => 0x41
  | .podCycle .. => 0x42
  | .podRelease .. => 0x43
  | .readKit => 0x50
  | .readSnapshot => 0x51
  | .clearSnapshot => 0x52
  | .clearCounters => 0x53
  | .clearPeaks .. => 0x54
  | .readSag .. => 0x55

/-! ## The checks of a load (R5) -/

/-- `k` lies in lo..hi. -/
def within (lo hi k : Nat) : Bool := decide (lo ≤ k) && decide (k ≤ hi)

/-- The field of the first check that fails. -/
def firstBad : List (Bool × Nat) → Option Nat
  | [] => none
  | (ok, field) :: rest => if ok then firstBad rest else some field

/-- What the common checks of R5 decide: the reply of a refused load, or the entry and the fields to store (none for the
form that gives the index alone). -/
inductive LoadVerdict (α : Type) (n : Nat) where
  | refused (result : ResultCode) (data : List Byte)
  | taken (i : Fin n) (fields : Option α)

/-- R5: lock, index, ranges, cross-field, the first step that fails deciding. -/
def loadChecks {α : Type} (n : Nat) (locked : Bool) (index : Nat) (fields : Option α)
    (ranges cross : α → List (Bool × Nat)) : LoadVerdict α n :=
  if locked then .refused .locked []
  else
    match ofNumber n index with
    | none => .refused .badValue (u8 0)
    | some i =>
      match fields with
      | none => .taken i none
      | some f =>
        match firstBad (ranges f) with
        | some field => .refused .badValue (u8 field)
        | none =>
          match firstBad (cross f) with
          | some field => .refused .badTable (u8 field)
          | none => .taken i (some f)

/-- R1: the ranges of a channel entry. Fields 2 to 4 of an UNUSED entry are not checked. -/
def channelRanges (c : ChannelFields) : List (Bool × Nat) :=
  [(within 1 3 c.kind, 1)] ++
  (if c.kind = 3 then []
   else [(within 1 6 c.range, 2), (within 1000 32767 c.nom, 3), (within 1 65535 c.declared, 4)]) ++
  [((yesNo c.raw).isSome, 5), ((yesNo c.analyse).isSome, 6), ((yesNo c.harmonic).isSome, 7)]

/-- R2: the cross-field checks of a channel entry, in order. -/
def channelCross (c : ChannelFields) : List (Bool × Nat) :=
  [(!(decide (c.kind = 1) && decide (4 < c.range)), 2),
   (!(decide (c.kind = 3) && decide (c.raw = 1)), 5),
   (!(decide (c.kind = 3) && decide (c.analyse = 1)), 6),
   (!(decide (c.harmonic = 1) && decide (c.analyse = 2)), 7)]

/-- R1: the stored entry of accepted fields. -/
def channelEntry (c : ChannelFields) : ChannelEntry :=
  if c.kind = 3 then .unused
  else
    .mapped
      { kind := if c.kind = 1 then .voltage else .current
        range := c.range
        nom := c.nom
        declared := c.declared
        raw := decide (c.raw = 1)
        analyse := decide (c.analyse = 1)
        harmonic := decide (c.harmonic = 1) }

/-- R3, R4: the ranges of a group entry. -/
def groupRanges (g : GroupFields) : List (Bool × Nat) :=
  [(within 1 6 g.members.length && g.members.all (within 1 48), 1),
   (within 1 8 g.profile, 2),
   (g.bins.all (within 1 4), 3),
   (decide (g.nominal = 50) || decide (g.nominal = 60), 4),
   (within 1 48 g.refA, 5),
   (g.refB.all (within 1 48), 6),
   (within 0 255 g.k, 7),
   (within 0 3 g.f, 8),
   (within 0 127 g.m, 9),
   (within 0 64 g.w, 10),
   ([0, 2, 4, 8].contains g.d, 11),
   (within 1 255 g.flywheel, 12)]

/-- No number stands twice in the list. -/
def distinct (l : List Nat) : Bool := decide l.Nodup

/-- R4: the cross-field checks of a group entry, in order. -/
def groupCross (g : GroupFields) : List (Bool × Nat) :=
  [(distinct g.members, 1),
   (g.members.contains g.refA, 5),
   (g.refB.all (fun b => g.members.contains b && decide (b ≠ g.refA)), 6),
   (decide (g.k = 0) || g.refB.isSome, 7)]

/-- R84: the ranges of a profile. -/
def profileRanges (p : ProfileFields) : List (Bool × Nat) :=
  [(within 1 65535 p.intEnter, 1),
   (within 1 65535 p.intExit, 2),
   (within 1 65535 p.sagEnter, 3),
   (within 1 65535 p.sagExit, 4),
   (within 1 65535 p.swellExit, 5),
   (within 1 65535 p.swellEnter, 6),
   (within 0 8 p.pre, 7),
   (within 0 16 p.post, 8),
   (within 1 64 p.body, 9),
   (within 0 10000 p.burstMs, 10),
   (within 1 600 p.maxSeconds, 11)]

/-- R85: the cross-field checks of a profile, in order. -/
def profileCross (p : ProfileFields) : List (Bool × Nat) :=
  [(decide (p.intEnter < p.intExit), 2),
   (decide (p.intExit ≤ p.sagEnter), 3),
   (decide (p.sagEnter < p.sagExit), 4),
   (decide (p.sagExit ≤ 10000), 4),
   (decide (10000 ≤ p.swellExit), 5),
   (decide (p.swellExit < p.swellEnter), 6)]

/-- R114: the ranges of a bin set. -/
def binRanges (b : BinFields) : List (Bool × Nat) :=
  [(within 1 16 b.orders.length && b.orders.all (within 2 50), 1),
   (within 1 16 b.limits.length && b.limits.all (within 0 65535), 2),
   ([8, 10, 12, 16].contains b.blockLength, 3),
   (within 0 12 b.exponent, 4),
   (within 0 32767 b.minFund, 5)]

/-- The list is strictly ascending. -/
def ascending : List Nat → Bool
  | [] => true
  | [_] => true
  | x :: y :: rest => decide (x < y) && ascending (y :: rest)

/-- R115: the cross-field checks of a bin set, in order. -/
def binCross (b : BinFields) : List (Bool × Nat) :=
  [(ascending b.orders, 1), (decide (b.limits.length = b.orders.length), 2)]

/-- R42: the ranges of a pod table entry. There is no cross-field check. -/
def podRanges (p : PodFields) : List (Bool × Nat) :=
  [((yesNo p.enable).isSome, 1),
   (within 1 6 p.typeCode, 2),
   (p.silence.all (within 2 255), 3),
   (within 0 4 p.retry, 4),
   (within 100 10000 p.offTime, 5),
   (within 0 600 p.cooldown, 6),
   (within 0 3 p.quiet, 7)]

/-- R42: the stored entry; an omitted silence limit is 16. -/
def podEntry (p : PodFields) : PodEntry where
  enable := decide (p.enable = 1)
  typeCode := p.typeCode
  silence := p.silence.getD 16
  retry := p.retry
  offTime := p.offTime
  cooldown := p.cooldown
  quiet := p.quiet

/-- R152: a section in range, or none. Kinds are coded by their place in the table of R152. -/
def sectOf : SectionArg → Option Sect
  | .unreadable => none
  | .given 1 [] => some .title
  | .given 2 [] => some .kit
  | .given 3 [g, k, r] =>
    if within 1 255 g && within 1 7 k && within 0 65535 r then some (.sagList ⟨g, k, r⟩) else none
  | .given 4 [g, k, r] =>
    if within 1 255 g && within 1 7 k && within 0 65535 r then some (.sagDetail ⟨g, k, r⟩) else none
  | .given 5 [g] => if within 1 255 g then some (.harmonicTable g) else none
  | .given 6 [g] => if within 1 255 g then some (.harmonicPeaks g) else none
  | .given 7 [k] => if within 1 63 k then some (.notes k) else none
  | .given 8 [n] => if within 1 4 n then some (.signOff n) else none
  | .given 9 [n] => if within 1 255 n then some (.feed n) else none
  | .given _ _ => none

/-- R153: each section against its place in the list. -/
def sectRanges : Nat → List SectionArg → List (Bool × Nat)
  | _, [] => []
  | place, x :: xs => ((sectOf x).isSome, place) :: sectRanges (place + 1) xs

/-- R153: the ranges of a template. -/
def templateRanges (t : TemplateFields) : List (Bool × Nat) :=
  (within 1 16 t.count, 1) :: sectRanges 1 t.sections

/-- R153: the template has no cross-field check. -/
def noCross {α : Type} (_ : α) : List (Bool × Nat) := []

/-- R154: the ranges of the printer settings, in field order. -/
def printerRanges (p : PrinterFields) : List (Bool × Nat) :=
  [(within 0 4 p.retryLimit, 1),
   (within 100 5000 p.retryMs, 2),
   (within 0 600 p.cooldown, 3),
   (within 40 90 p.hotLimit, 4),
   (within 30 85 p.resumeLimit, 5),
   (within 1 60 p.heldMinutes, 6)]

/-- R154: a resume limit above the hot limit minus 5. -/
def printerCross (p : PrinterFields) : List (Bool × Nat) :=
  [(decide (p.resumeLimit + 5 ≤ p.hotLimit), 5)]

end Sys2Proof.Machine
end

