-- ==== Sys2Proof/Machine/Flags.lean ====
section
/-! DEFINITION. Every flag the spec computes: the bits of a slot's status word (10 "The sweep frame"), the pod sets and
summary flags (R45, R61), the half-cycle flags (R79), and the flag fields of records and notices. -/

namespace Sys2Proof.Machine

/-! ## The status word of a slot -/

/-- The fault bits of a status word: CLAMP_OPEN, OVERLOAD, OVERTEMP, INTERNAL, SUPPLY_LOW (R46). Bits 13 to 15 are
ignored (R190). -/
def faultBits (status : BitVec 16) : BitVec 16 := status &&& 0x07FF#16

def clampOpen (status : BitVec 16) (k : Nat) : Bool := status.getLsbD k
def overload (status : BitVec 16) (k : Nat) : Bool := status.getLsbD (4 + k)
def overtemp (status : BitVec 16) : Bool := status.getLsbD 8
def internalFault (status : BitVec 16) : Bool := status.getLsbD 9
def supplyLow (status : BitVec 16) : Bool := status.getLsbD 10
def markBit (status : BitVec 16) : Bool := status.getLsbD 11
def unjoined (status : BitVec 16) : Bool := status.getLsbD 12

/-- R52: an off reason entered into the off-reason set. -/
def addReason (set : BitVec 8) (r : OffReason) : BitVec 8 := set ||| (1#8 <<< reasonBit r)

/-! ## The pod table and the pod sets -/

/-- R42: a position is enabled when its entry is set with enable YES. -/
def entryEnabled : Option PodEntry → Bool
  | some e => e.enable
  | none => false

/-- R42: the position is enabled. -/
def Pods.enabled (x : Pods) (p : Pos) : Bool := entryEnabled (x.table.get p)

/-- R42: the highest position whose entry is enabled, or 0. -/
def Pods.pMax (x : Pods) : Nat :=
  (indexes 12).foldl (fun m p => if x.enabled p then ordinal p else m) 0

/-- R45: the feed-enable output of a state. -/
def feedOn : PodState → Bool
  | .powering | .joining | .active | .mismatch => true
  | .disabled | .off _ _ | .cooldown | .latched => false

/-- R45, R61: membership of the JOINING, MISMATCH, OFF and LATCHED sets. -/
def inJoining : PodState → Bool
  | .powering | .joining => true
  | _ => false

def inMismatch : PodState → Bool
  | .mismatch => true
  | _ => false

def inOff : PodState → Bool
  | .off _ _ | .cooldown | .latched => true
  | _ => false

def inLatched : PodState → Bool
  | .latched => true
  | _ => false

/-- R45: a POWERING, JOINING, ACTIVE or MISMATCH pod is supervised: reports are applied to it (R46). -/
def supervised (s : PodState) : Bool := feedOn s

/-- The feed-enable outputs (R45). -/
def Pods.feeds (x : Pods) : Table Bool 12 := x.records.map fun r => feedOn r.state

/-- R33: the LOOP_ERROR set: either path mark. -/
def loopErrors (f r : Table Bool 12) : Table Bool 12 :=
  Table.tabulate 12 fun p => f.get p || r.get p

/-- R61: the seven pod sets, in the order JOINING, MISMATCH, OFF, LATCHED, UNREACHABLE, LOOP_ERROR, FAULT. -/
def podSets (records : Table PodRecord 12) (unreachable loopForward loopReverse : Table Bool 12) :
    List (Table Bool 12) :=
  [records.map fun r => inJoining r.state,
   records.map fun r => inMismatch r.state,
   records.map fun r => inOff r.state,
   records.map fun r => inLatched r.state,
   unreachable,
   loopErrors loopForward loopReverse,
   records.map fun r => decide (r.fault ≠ 0#16)]

/-- R61: a summary flag is set if and only if its set is not empty. -/
def flagOf (set : Table Bool 12) : Bool := set.items.any id

/-- R61: the seven summary flags. -/
def summaryFlags (x : Pods) (r : Ring) : List Bool :=
  (podSets x.records r.unreachable r.loopForward r.loopReverse).map flagOf

/-- 10: a set of positions as a bitmap, position p at bit p − 1. -/
def positionBits (set : Table Bool 12) : Nat := presence set.items

/-! ## Half-cycle flags (R79) -/

def isTracked : BoundaryKind → Bool
  | .crossing => true
  | _ => false

def isFlywheel : BoundaryKind → Bool
  | .forced | .wheel => true
  | _ => false

def isNominal : BoundaryKind → Bool
  | .timed | .origin => true
  | _ => false

/-- R79: the flags of the half-cycle from a boundary of kind `b0` to one of kind `b1`, of `n` samples. -/
def halfFlags (b0 b1 : BoundaryKind) (resync : Bool) (n : Nat) : HalfFlags where
  tracked := isTracked b0 && isTracked b1
  flywheel := isFlywheel b0 || isFlywheel b1
  nominal := isNominal b0 || isNominal b1
  resync := resync
  short := decide (n < 39)

/-- The flags of the origin, which ends no half-cycle. -/
def noHalfFlags : HalfFlags := ⟨false, false, false, false, false⟩

/-! ## Record flags -/

/-- An event that has gathered no flag yet. -/
def noEventFlags : EventFlags := ⟨false, false, false, false, false, false, false, false, false⟩

/-- 10 "The sag record": bits 0..8. -/
def EventFlags.bits (f : EventFlags) : Nat :=
  presence [f.gap, f.nominal, f.flywheel, f.clipped, f.cut, f.postShort, f.bodyCut, f.truncated, f.swellAlso]

end Sys2Proof.Machine
end

