-- ==== Sys2Proof/Machine/Layouts.lean ====
section
/-! DEFINITION. The byte layouts of 10_frame_and_record_layouts.md: what the pods and the van computer see. Layouts that
R192 gives by rule only (notices, the result data of replies) are marked in entries 25 and 26. -/

namespace Sys2Proof.Machine

/-! ## Items (R192) -/

/-- Items that include optional ones: presence first, then every item in its width, an absent one as 0. -/
def withPresence (present : List Bool) (items : List Byte) : List Byte := u8 (presence present) ++ items

/-- R192: a set of positions is a two-byte bitmap. -/
def setBytes (set : Table Bool 12) : List Byte := u16 (positionBits set)

/-! ## The sweep frame -/

/-- R23: the request slot as dispatched, with an EMPTY answer. A target of 0 says that it carries no transaction; its number,
operation, parameter and value are 0 then, which no rule states (DESIGN CHOICE, unsafe, entry 62). -/
def requestBytes : Option Transaction → List Byte
  | none => List.replicate 9 0
  | some t => u8 (ordinal t.target) ++ u8 t.number ++ u8 (codeTxOp t.op) ++ u8 t.parameter ++ u16 t.value ++ u8 0 ++ u16 0

/-- 10 "The sweep frame": a dispatched frame of 147 bytes, with empty pod slots. -/
def sweepFrame (sweepNumber : Nat) (s : Sweep) : List Byte :=
  let body := u16 sweepNumber ++ u8 (codeDirection s.direction) ++ u8 s.turn ++ requestBytes s.request ++
    List.replicate 132 0
  body ++ u16 (crc body).toNat

/-! ## The station frame envelope (R173, R174) -/

def kindReply : Byte := 0x81
def kindNotice : Byte := 0x82
def kindRecord : Byte := 0x83
def kindCapture : Byte := 0x84
def kindSample : Byte := 0x85

/-- R173: a whole frame: sync pair, kind, tag, length, payload, check sequence. -/
def stationFrame (kind tag : Byte) (payload : List Byte) : List Byte :=
  let body := kind :: tag :: (u16 payload.length ++ payload)
  [0xA5, 0x5A] ++ body ++ u16 (crc body).toNat

/-! ## Replies -/

/-- 10 "Directives and replies": a reply payload. -/
def replyPayload (r : Reply) : List Byte := r.code :: (u8 (codeResult r.result) ++ u8 r.overrun ++ r.data)

/-! ## Notices (R192, entry 25) -/

/-- R165, R192: the printer status of a PRINTER notice, zeros when absent (entry 25). R192 gives the head temperature one byte and no
encoding of its sign: it is sent in two's complement (DESIGN CHOICE, unsafe, entry 74). -/
def statusBytes : Option PrinterStatus → List Byte
  | none => u8 0 ++ u8 0 ++ u8 0 ++ u8 0
  | some s => u8 (if s.ready then 1 else 2) ++ u8 (if s.paper then 1 else 2) ++ u8 (s.temp % 256).toNat ++ u8 s.fault

/-- The notice kinds of 10 "Enumerations". -/
def noticeKind : NoticeBody → Nat
  | .pod .. => 1
  | .ring .. => 2
  | .tracker .. => 3
  | .survey .. => 4
  | .job .. => 5
  | .printer .. => 6

/-- The content of a notice after its head, in the order of its owner's rule. The survey tick count stands in the head. The
loop-error set of a RING notice (R38) is sent as three bitmaps, as the kit report sends it: the positions with either mark,
then those marked FORWARD and those marked REVERSE. The hot mark of a PRINTER notice is 1 for set and 0 for clear (entry
25). The fault code of a JOB notice, which R169 lists with its end reason, is an item of its own after the end reason, with a
presence bit of its own, and 0 when absent (DESIGN CHOICE, unsafe, entry 66). -/
def noticeContent : NoticeBody → List Byte
  | .pod p previous next cause retry flags =>
    u8 (ordinal p) ++ u8 (codePodState previous) ++ u8 (codePodState next) ++ u8 (codePodCause cause) ++ u8 retry ++
    u8 (presence flags)
  | .ring mode cause tf tr f r unreachable =>
    u8 (codeRingMode mode) ++ u8 (codeRingCause cause) ++ u8 tf ++ u8 tr ++ setBytes (loopErrors f r) ++ setBytes f ++
    setBytes r ++ setBytes unreachable
  | .tracker g previous next cause boundary period frequency entries =>
    u8 (ordinal g) ++ u8 (codeTrackerState previous) ++ u8 (codeTrackerState next) ++ u8 (codeTrackerCause cause) ++
    u48 boundary ++ u16 period ++ u32 frequency ++ u16 entries
  | .survey state n cause =>
    withPresence [n.isSome] (u8 (codeSurveyState state) ++ u16 (n.getD 0) ++ u8 (codeSurveyCause cause))
  | .job n ending copy =>
    let code := match ending with | .failedFault c => some c | _ => none
    withPresence [(codeEndReason ending).isSome, code.isSome]
      (u16 n ++ u8 (codeEndState ending) ++ u8 ((codeEndReason ending).getD 0) ++ u8 (code.getD 0) ++ u8 copy)
  | .printer status answers hot job =>
    withPresence [status.isSome, job.isSome]
      (statusBytes status ++ u8 (codeAnswering answers) ++ u8 hot.toNat ++ u16 (job.getD 0))

/-- R187, 10 "Enumerations": a NOTICE payload with the lost count written at the send. -/
def noticePayload (lost : Nat) (n : Notice) : List Byte :=
  u8 (noticeKind n.body) ++ u8 lost ++ u48 n.tick ++ noticeContent n.body

/-! ## Sag records and captures -/

/-- 10 "The sag record". -/
def sagPayload (r : SagRecord) (again : Bool) : List Byte :=
  u8 1 ++ u32 r.number ++ u8 r.group ++ u8 (codeSagKind r.kind) ++ u8 (if again then 2 else 1) ++
  u8 (presence [r.maximum.isSome, r.burst.isSome, r.capture.isSome]) ++ u16 r.flags.bits ++ u48 r.start ++
  u32 r.halves ++ u32 r.ms ++ u16 r.residual ++ u8 r.worst ++ u16 r.lostBefore ++
  u8 r.involved.length ++ r.involved.flatMap u8 ++
  u8 r.extremes.length ++ r.extremes.flatMap (fun e => u8 e.1 ++ u16 e.2) ++
  (match r.maximum with | some m => u16 m | none => []) ++
  (match r.burst with | some b => u32 b.1 ++ u8 b.2 | none => []) ++
  (match r.capture with
   | some c => u8 c.members.length ++ c.members.flatMap u8 ++ u16 c.pre ++ u16 c.body ++ u16 c.post
   | none => [])

/-- 10 "Sample and capture frames". -/
def capturePayload (sag channel first : Nat) (samples : List Int) : List Byte :=
  u32 sag ++ u8 channel ++ u32 first ++ u8 samples.length ++ samples.flatMap sampleBytes

/-! ## Interval records -/

/-- 10 "The interval record": a channel section. -/
def sectionBytes (c : ChannelSection) : List Byte :=
  u8 c.channel ++ u8 (presence [c.fundamental.isSome, c.thd.isSome]) ++ u24 (c.fundamental.getD 0) ++
  u16 (c.thd.getD 0) ++ u16 (presence (c.orders.map fun o => o.ratio.isSome)) ++
  u16 (presence (c.orders.map fun o => c.exceeded.contains o.order)) ++
  c.orders.flatMap fun o => u8 o.order ++ u24 o.value ++ u16 (o.ratio.getD 0)

/-- 10 "The interval record": the 37-byte head and the sections of one frame. -/
def intervalPayload (r : IntervalRecord) (part parts : Nat) (sections : List ChannelSection) : List Byte :=
  u8 2 ++ u32 r.number ++ u8 r.group ++ u8 part ++ u8 parts ++
  u8 (presence [r.isEmpty, r.isPartial, r.lowFund]) ++ u48 r.start ++ u48 r.stop ++
  u16 r.total ++ u16 r.used ++ u16 r.flagged ++ u16 r.invalid ++ u32 r.frequency ++ u16 r.lostBefore ++
  u8 ((r.sections.head?.map fun c => c.orders.length).getD 0) ++ u8 sections.length ++ sections.flatMap sectionBytes

/-! ## Notes and identity -/

/-- 10 "The note record": the note body. -/
def noteBytes (b : NoteBody) : List Byte :=
  let n := b.note
  u8 b.number ++ u8 (codeNoteState n.state) ++ u8 (match n.state with | .amended s => s | _ => 0) ++
  u8 (n.predecessor.getD 0) ++ u8 (codeNoteKind n.kind) ++
  u8 (presence [n.sag.isSome, n.sag.any (fun l => l.kept), n.interval.isSome, n.pod.isSome]) ++
  u48 n.made ++ u48 n.refer ++ u32 ((n.sag.map fun l => l.sag).getD 0) ++ u32 (n.interval.getD 0) ++
  u8 ((n.pod.map ordinal).getD 0) ++ u16 b.text.length ++ b.text

/-- 10 "The note record": READ-NOTE of IDENTITY. A field's written mark is set exactly when it is present. The layout has no
presence bit for the survey number and the open wall time, and both are sent as 0 when absent (entry 45). -/
def identityBytes (i : Identity) : List Byte :=
  let marks := [i.site.isSome, i.crew.isSome, i.client.isSome]
  u8 (presence marks) ++ u8 (presence marks) ++ u16 (i.number.getD 0) ++ u32 (i.wall.getD 0) ++
  (match i.site with | some t => textBytes t | none => []) ++
  (match i.crew with | some t => textBytes t | none => []) ++
  (match i.client with | some t => textBytes t | none => [])

/-! ## The record queue -/

/-- The kind and payload of a frame of the record queue. -/
def recordPayload : RecordFrame → Byte × List Byte
  | .sag r again => (kindRecord, sagPayload r again)
  | .capture sag channel first samples => (kindCapture, capturePayload sag channel first samples)
  | .interval r part parts sections => (kindRecord, intervalPayload r part parts sections)
  | .note b => (kindRecord, u8 3 ++ noteBytes b)

/-! ## Sample frames -/

/-- 10 "Sample and capture frames". -/
def samplePayload (f : SampleFrame) : List Byte :=
  u48 f.first ++ u8 f.ticks ++ u8 f.portion ++ u8 f.portions ++ u8 f.drops ++ u8 f.channels.length ++
  f.channels.flatMap u8 ++ f.gaps.flatMap u8 ++ f.samples.flatMap (fun row => row.flatMap sampleBytes)

/-! ## The kit report and the snapshot -/

/-- 10 "The kit report": a scan time, 0xFFFF when absent. -/
def scanBytes (t : Option Nat) : List Byte := u16 (t.getD 65535)

/-- 10 "The kit report": a position record of 20 bytes. -/
def positionBytes (r : PodRecord) : List Byte :=
  u8 (codePodState r.state) ++ u8 (codeOff r.state) ++ u16 r.fault.toNat ++ u16 r.history.toNat ++
  u8 r.reasons.toNat ++ u8 (codeLastReason r.lastReason) ++ u8 r.retry ++
  u8 (presence (r.readings.items.map Option.isSome)) ++ r.readings.items.flatMap fun v => u16 (v.getD 0)

/-- 10 "The kit report": 284 bytes. -/
def kitBytes (k : KitReport) : List Byte :=
  let sets := podSets k.pods k.unreachable k.loopForward k.loopReverse
  u8 (presence (sets.map flagOf)) ++ sets.flatMap setBytes ++ setBytes k.loopForward ++ setBytes k.loopReverse ++
  u8 (codeRingMode k.mode) ++ u8 k.tf ++ u8 k.tr ++ u8 (k.turnForward.getD 0) ++ u8 (k.turnReverse.getD 0) ++
  scanBytes k.scanCurrent ++ u16 k.scanMax ++ scanBytes k.scanMin ++ u16 k.lost ++ u16 k.switches ++
  k.pods.items.flatMap positionBytes ++ u16 k.markLost ++
  u16 k.linkErrors ++ u16 k.overruns ++ u16 k.sampleDrops ++ u16 k.noticeLosses

/-- 10 "The kit report": READ-SNAPSHOT's result data. -/
def snapshotBytes : Option Snapshot → List Byte
  | none => u8 0
  | some s =>
    u8 1 ++ u8 (codeSnapshotCause s.cause) ++ u8 ((s.position.map ordinal).getD 0) ++ u48 s.tick ++ kitBytes s.kit

/-! ## Table entries as READ-TABLE gives them (R7, R191, R192) -/

/-- A list with its one-byte count. -/
def listBytes (item : Nat → List Byte) (l : List Nat) : List Byte := u8 l.length ++ l.flatMap item

def channelBytes : ChannelEntry → List Byte
  | .unused => u8 3
  | .mapped c =>
    u8 (codeMeasure c.kind) ++ u8 c.range ++ u16 c.nom ++ u16 c.declared ++ u8 (codeYesNo c.raw) ++
    u8 (codeYesNo c.analyse) ++ u8 (codeYesNo c.harmonic)

/-- An absent optional field takes no bytes (R191). -/
def optBytes (item : Nat → List Byte) : Option Nat → List Byte
  | some n => item n
  | none => []

def groupBytes (g : GroupFields) : List Byte :=
  u8 (presence [g.bins.isSome, g.refB.isSome]) ++ listBytes u8 g.members ++ u8 g.profile ++ optBytes u8 g.bins ++
  u8 g.nominal ++ u8 g.refA ++ optBytes u8 g.refB ++ u8 g.k ++ u8 g.f ++ u8 g.m ++ u8 g.w ++ u8 g.d ++ u8 g.flywheel

def profileBytes (p : ProfileFields) : List Byte :=
  u16 p.intEnter ++ u16 p.intExit ++ u16 p.sagEnter ++ u16 p.sagExit ++ u16 p.swellExit ++ u16 p.swellEnter ++
  u8 p.pre ++ u8 p.post ++ u8 p.body ++ u16 p.burstMs ++ u16 p.maxSeconds

def binBytes (b : BinFields) : List Byte :=
  listBytes u8 b.orders ++ listBytes u16 b.limits ++ u8 b.blockLength ++ u8 b.exponent ++ u16 b.minFund

def podEntryBytes (e : PodEntry) : List Byte :=
  u8 (presence [true]) ++ u8 (codeYesNo e.enable) ++ u8 e.typeCode ++ u8 e.silence ++ u8 e.retry ++ u16 e.offTime ++
  u16 e.cooldown ++ u8 e.quiet

def sectBytes : Sect → List Byte
  | .title => u8 1
  | .kit => u8 2
  | .sagList f => u8 3 ++ u8 f.groups ++ u8 f.kinds ++ u16 f.maxResidual
  | .sagDetail f => u8 4 ++ u8 f.groups ++ u8 f.kinds ++ u16 f.maxResidual
  | .harmonicTable g => u8 5 ++ u8 g
  | .harmonicPeaks g => u8 6 ++ u8 g
  | .notes k => u8 7 ++ u8 k
  | .signOff n => u8 8 ++ u8 n
  | .feed n => u8 9 ++ u8 n

def templateBytes (t : List Sect) : List Byte := u8 t.length ++ t.flatMap sectBytes

/-- R192: table code, index, 0 for UNSET or 1 and the fields. -/
def entryBytes {α : Type} (table index : Nat) (fields : α → List Byte) : Option α → List Byte
  | none => u8 table ++ u8 index ++ u8 0
  | some x => u8 table ++ u8 index ++ u8 1 ++ fields x

/-- R154: the reply to an accepted LOAD-PRINTER carries the settings as stored. -/
def settingsBytes (p : PrinterFields) : List Byte :=
  u8 p.retryLimit ++ u16 p.retryMs ++ u16 p.cooldown ++ u8 p.hotLimit ++ u8 p.resumeLimit ++ u8 p.heldMinutes

end Sys2Proof.Machine
end

