-- ==== Sys2Proof/Machine/Ops.lean ====
section
/-! DEFINITION. The operations the steps share: the link's queues, the handler's taking of a directive, timers, the kit
report and snapshot, pod state changes, and the request slot. -/

namespace Sys2Proof.Machine

/-- What a step answers. -/
abbrev StepResult := Host.Outcome State Fault Refusal

/-! ## Block updates -/

def State.mapSurvey (f : Survey → Survey) (s : State) : State := { s with survey := f s.survey }
def State.mapRing (f : Ring → Ring) (s : State) : State := { s with ring := f s.ring }
def State.mapPods (f : Pods → Pods) (s : State) : State := { s with pods := f s.pods }
def State.mapTrackers (f : Table Tracker 8 → Table Tracker 8) (s : State) : State := { s with trackers := f s.trackers }
def State.mapEvents (f : Events → Events) (s : State) : State := { s with events := f s.events }
def State.mapHarmonics (f : Harmonics → Harmonics) (s : State) : State := { s with harmonics := f s.harmonics }
def State.mapNotes (f : Notes → Notes) (s : State) : State := { s with notes := f s.notes }
def State.mapPrinter (f : Printer → Printer) (s : State) : State := { s with printer := f s.printer }
def State.mapLink (f : Link → Link) (s : State) : State := { s with link := f s.link }

/-! ## The link's queues -/

/-- R187: a notice joins the queue; when it holds 16, its oldest notice is dropped and counted. -/
def Link.offer (n : Notice) (l : Link) : Link :=
  if l.notices.length < Config.noticeDepth then { l with notices := l.notices ++ [n] }
  else
    { l with
      notices := l.notices.drop 1 ++ [n]
      lostNotices := bump8 l.lostNotices 1
      noticeLosses := bump l.noticeLosses }

/-- R187: an owner offers a notice, with the survey tick count. -/
def State.offer (body : NoticeBody) (s : State) : State :=
  s.mapLink (Link.offer ⟨s.survey.tick, body⟩)

/-- R178: the reply queue has a free entry. -/
def Link.hasFreeReply (l : Link) : Bool :=
  decide (l.replies.length + (if l.reserved.isSome then 1 else 0) < Config.replyDepth)

/-- R179: a reply becomes full; it carries the overrun count, which returns to 0. -/
def Link.fill (tag code : Byte) (r : ResultCode) (data : List Byte) (l : Link) : Link :=
  { l with replies := l.replies ++ [⟨tag, code, r, data, l.overrun⟩], overrun := 0 }

def State.fill (tag code : Byte) (r : ResultCode) (data : List Byte) (s : State) : State :=
  s.mapLink (Link.fill tag code r data)

/-- R177: the reserved entry becomes full with the reply of a pod transaction. -/
def Link.fillReserved (r : ResultCode) (data : List Byte) (l : Link) : Link :=
  match l.reserved with
  | none => l
  | some (tag, code) => { l with reserved := none }.fill tag code r data

def State.fillReserved (r : ResultCode) (data : List Byte) (s : State) : State :=
  s.mapLink (Link.fillReserved r data)

/-- R182: free places of the record queue. -/
def Link.recordRoom (l : Link) : Nat := Config.recordDepth - l.records.length

/-- R182: frames accepted by the record queue. -/
def Link.accept (frames : List RecordFrame) (l : Link) : Link := { l with records := l.records ++ frames }

/-- R186: a sample frame is accepted, with the drop count, or dropped and counted. -/
def Link.offerSample (f : SampleFrame) (l : Link) : Link :=
  if l.samples.length < Config.sampleDepth then
    { l with samples := l.samples ++ [{ f with drops := l.drops }], drops := 0 }
  else { l with drops := bump8 l.drops 1, sampleDrops := bump l.sampleDrops }

/-! ## Sample frames of a closed block -/

/-- R185: the frame of one portion: places `i × 7` on of the block's channels. -/
def portionFrame (b : Block) (portions i : Nat) : SampleFrame where
  first := b.first
  ticks := b.rows.length
  portion := i + 1
  portions := portions
  drops := 0
  channels := (b.channels.drop (i * Config.portionChannels)).take Config.portionChannels
  gaps := ((b.channels.drop (i * Config.portionChannels)).take Config.portionChannels).zipIdx.map fun (_, j) =>
    b.rows.countP fun row => (nth (0, false) row (i * Config.portionChannels + j)).2
  samples := b.rows.map fun row =>
    ((row.drop (i * Config.portionChannels)).take Config.portionChannels).map Prod.fst

/-- R185: the frames of a closed block, in portion order. -/
def blockFrames (b : Block) : List SampleFrame :=
  let portions := ceilDiv b.channels.length Config.portionChannels
  (List.range portions).map (portionFrame b portions)

/-- R184, R186: the block in formation closes and its frames are offered. A block of no ticks is not formed. -/
def Link.closeBlock (l : Link) : Link :=
  match l.block with
  | none => l
  | some b => (blockFrames b).foldl (fun l f => l.offerSample f) { l with block := none }

/-! ## Directives -/

/-- What an owner answers: the new state, and the result with its data; no result while the reply waits (R177). -/
abbrev Answer := State × Option (ResultCode × List Byte)

/-- R177: the handler takes a directive: the reply queue must have a free entry, and the directive must be the one at the
head of the directive queue, which it leaves. A directive given while the queue is empty is taken as it arrives (entry 3). -/
def State.take (tag : Byte) (reads : List Byte → Bool) (s : State) : Option State :=
  if s.link.hasFreeReply then
    match s.link.directives with
    | [] => some s
    | q :: rest =>
      if q.tag = tag ∧ reads q.payload = true then some (s.mapLink fun l => { l with directives := rest }) else none
  else none

/-- R177: the handler takes a directive, the owner carries it out, and the reply fills the free entry, which becomes
reserved instead when the owner has no result yet. Without a take nothing changes. -/
def handle (tag : Byte) (d : Directive) (owner : State → Answer) (s : State) : StepResult :=
  match s.take tag fun payload => parseDirective payload = some d with
  | none => .next s
  | some s =>
    match owner s with
    | (s, some (r, data)) => .next (s.fill tag (codeDirective d) r data)
    | (s, none) => .next (s.mapLink fun l => { l with reserved := some (tag, codeDirective d) })

/-- A refusal that changes nothing. -/
def refuse (r : ResultCode) (data : List Byte) (s : State) : Answer := (s, some (r, data))

/-- An acceptance. -/
def accept (s : State) (data : List Byte) : Answer := (s, some (.ok, data))

/-- R6: the survey lock covers the analysis tables. -/
def State.surveyLock (s : State) : Bool := decide (s.survey.state ≠ .closed)

/-! ## Timers -/

/-- One tick begun. -/
def Timer.tick (t : Timer) : Timer := { t with elapsed := t.elapsed + 1 }

/-- The timer has run its length. -/
def Timer.over (t : Timer) : Bool := decide (t.length ≤ t.elapsed)

/-! ## The kit report and the snapshot -/

/-- R63: the kit report at this moment. -/
def State.kit (s : State) : KitReport where
  pods := s.pods.records
  unreachable := s.ring.unreachable
  loopForward := s.ring.loopForward
  loopReverse := s.ring.loopReverse
  mode := s.ring.mode
  tf := s.ring.tf
  tr := s.ring.tr
  turnForward := s.ring.turnForward
  turnReverse := s.ring.turnReverse
  scanCurrent := s.ring.scanCurrent
  scanMax := s.ring.scanMax
  scanMin := s.ring.scanMin
  lost := s.ring.lost
  switches := s.ring.switches
  markLost := s.notes.markLost
  linkErrors := s.link.linkErrors
  overruns := s.link.overruns
  sampleDrops := s.link.sampleDrops
  noticeLosses := s.link.noticeLosses

/-- R62: an empty snapshot is latched; a latched one is not replaced. -/
def State.latch (cause : SnapshotCause) (position : Option Pos) (s : State) : State :=
  match s.pods.snapshot with
  | some _ => s
  | none => s.mapPods fun x => { x with snapshot := some ⟨s.kit, cause, position, s.survey.tick⟩ }

/-! ## Pod records -/

/-- The record of a position. -/
def State.pod (s : State) (p : Pos) : PodRecord := s.pods.records.get p

/-- The record of a position changed. -/
def State.mapPod (p : Pos) (f : PodRecord → PodRecord) (s : State) : State :=
  s.mapPods fun x => { x with records := x.records.modify p f }

/-- R42: the settings of a position; an unset entry acts as one with enable NO. -/
def Pods.entry (x : Pods) (p : Pos) : PodEntry :=
  (x.table.get p).getD ⟨false, 0, 16, 0, 0, 0, 0⟩

/-- R61: a POD notice with the record and summary flags as they stand. -/
def State.podNotice (p : Pos) (previous : PodState) (cause : PodCause) (s : State) : State :=
  s.offer (.pod p previous (s.pod p).state cause (s.pod p).retry (summaryFlags s.pods s.ring))

/-- R61: a move of a pod to a state, with its POD notice. -/
def State.movePod (p : Pos) (next : PodState) (cause : PodCause) (s : State) : State :=
  (s.mapPod p fun r => { r with state := next }).podNotice p (s.pod p).state cause

/-- R47: join transactions wait in order of position, then parameter. -/
def queueJoin (j : JoinTransaction) : List JoinTransaction → List JoinTransaction
  | [] => [j]
  | k :: ks =>
    if j.position.val < k.position.val ∨ (j.position = k.position ∧ j.parameter < k.parameter) then j :: k :: ks
    else k :: queueJoin j ks

/-- A transaction of the slot is a join transaction of the position. -/
def isJoinOf (p : Pos) (t : Transaction) : Bool := decide (t.client = .join) && decide (t.target = p)

/-- R49: every join transaction of the position leaves the queue, and one in the slot is withdrawn. -/
def State.withdrawJoins (p : Pos) (s : State) : State :=
  (s.mapPods fun x => { x with joins := x.joins.filter fun j => decide (j.position ≠ p) }).mapRing fun r =>
    if r.request.any (isJoinOf p) then { r with request := none } else r

/-- R39: a transaction placed into the free slot takes the next number. -/
def Ring.place (target : Pos) (op : TxOp) (parameter value : Nat) (client : TxClient) (r : Ring) : Ring :=
  let n := (r.lastTransaction + 1) % 256
  { r with request := some ⟨target, n, op, parameter, value, client, 0⟩, lastTransaction := n }

/-- R39: the free slot takes the oldest waiting join transaction. A read carries the value 0 (entry 53). -/
def State.placeJoin (s : State) : State :=
  match s.ring.request, s.pods.joins with
  | none, j :: rest =>
    let op := if j.parameter = 5 then TxOp.joinWrite else .joinRead
    let value := if j.parameter = 5 then ordinal j.position else 0
    (s.mapPods fun x => { x with joins := rest }).mapRing (Ring.place j.position op j.parameter value .join)
  | _, _ => s

/-- R47: on entry to JOINING the readings are cleared and the five reads are queued. -/
def State.startJoin (p : Pos) (s : State) : State :=
  (s.mapPod p fun r => { r with readings := Table.replicate 5 none }).mapPods fun x =>
    { x with joins := [0, 1, 2, 3, 4].foldl (fun q k => queueJoin ⟨p, k⟩ q) x.joins }

/-- What the feed's going off clears (R52, R56): the fault word, the silence count, the quiet timer and the mark level. -/
def PodRecord.feedOff (r : PodRecord) : PodRecord :=
  { r with fault := 0#16, silence := 0, quiet := none, mark := false }

/-- R52: a fatal cause. `named` is the cause the snapshot and the notice carry, `causes` those that enter the off-reason
set, the last of them becoming the last off reason. -/
def State.fatalWith (p : Pos) (named : OffReason) (causes : List OffReason) (s : State) : State :=
  let s := (s.latch (.pod named) (some p)).withdrawJoins p
  let length := msTicks (s.pods.entry p).offTime
  (s.mapPod p fun r =>
    { r.feedOff with
      reasons := causes.foldl addReason r.reasons
      lastReason := causes.getLast?.or r.lastReason
      timer := some ⟨0, length⟩ }).movePod p (.off .offTime .policy) (reasonCause named)

/-- R52: one fatal cause. -/
def State.fatal (p : Pos) (r : OffReason) (s : State) : State := s.fatalWith p r [r]

/-- R54, R55: the feed is turned on and the pod enters POWERING. -/
def State.powerUp (p : Pos) (cause : PodCause) (s : State) : State :=
  (s.mapPod p fun r => { r with powering := 0, timer := none }).movePod p .powering cause

/-- R49: a pod in JOINING that became unreachable goes back to POWERING. -/
def State.joinUnreachable (p : Pos) (s : State) : State := (s.withdrawJoins p).powerUp p .unreachable

/-- R50: a re-join. A POD notice is offered when the pod moves to JOINING from another state. -/
def State.rejoin (p : Pos) (cause : PodCause) (s : State) : State :=
  let s := (s.withdrawJoins p).mapPod p fun r => { r with quiet := none, silence := 0 }
  (if (s.pod p).state = .joining then s else s.movePod p .joining cause).startJoin p

/-- R56: a pod switched off and on under cause COMMANDED. -/
def State.cyclePod (p : Pos) (s : State) : State :=
  let s := s.withdrawJoins p
  let length := msTicks (s.pods.entry p).offTime
  (s.mapPod p fun r =>
    { r.feedOff with
      reasons := addReason r.reasons .commanded
      lastReason := some .commanded
      timer := some ⟨0, length⟩ }).movePod p (.off .offTime .commanded) .commanded

/-- R54: the drained input is asserted in DRAIN-WAIT; the next step depends on the sequence kind. -/
def State.drained (p : Pos) (kind : SequenceKind) (s : State) : State :=
  let e := s.pods.entry p
  match kind with
  | .commanded | .release => s.powerUp p .feedOn
  | .policy =>
    if (s.pod p).retry < e.retry then
      (s.mapPod p fun r => { r with retry := r.retry + 1 }).powerUp p .feedOn
    else if 0 < e.cooldown then
      (s.mapPod p fun r => { r with timer := some ⟨0, secondTicks e.cooldown⟩ }).movePod p .cooldown .retryLimit
    else (s.mapPod p fun r => { r with timer := none }).movePod p .latched .retryLimit

/-- R54: the phase becomes DRAIN-WAIT; the wait ends at once when the input is already asserted. -/
def State.enterDrainWait (p : Pos) (kind : SequenceKind) (s : State) : State :=
  let s := s.mapPod p fun r =>
    { r with state := .off .drainWait kind, timer := some ⟨0, Config.drainWaitTicks⟩ }
  if s.pods.drained.get p then s.drained p kind else s

/-- R43, the enabled-to-enabled row: a reload of a position. -/
def State.reload (p : Pos) (s : State) : State :=
  let s := s.mapPod p fun r => { r with retry := min r.retry (s.pods.entry p).retry }
  match (s.pod p).state with
  | .active | .mismatch | .joining => s.rejoin p .table
  | _ => s

/-! ## The ring's sets -/

/-- R32: the position is reachable under the last settlement; before the first one every position is (entry 11). -/
def Ring.reachable (r : Ring) (pMax : Nat) (p : Pos) : Bool :=
  match r.lastSettled with
  | none | some .search => true
  | some .forward | some .reverse => decide (ordinal p ≤ pMax)
  | some .split =>
    (decide (r.tf ≠ 0) && decide (ordinal p ≤ r.tf)) ||
    (decide (r.tr ≠ 0) && decide (r.tr ≤ ordinal p) && decide (ordinal p ≤ pMax))
  | some .down => false

/-- R38: a RING notice. -/
def State.ringNotice (cause : RingCause) (s : State) : State :=
  s.offer (.ring s.ring.mode cause s.ring.tf s.ring.tr s.ring.loopForward s.ring.loopReverse s.ring.unreachable)

/-- R29: entry to SEARCH: the loss counts become 0, a search in progress is abandoned, and a RING notice is offered. -/
def State.enterSearch (cause : RingCause) (s : State) : State :=
  (s.mapRing fun r =>
    { r with mode := .search, lossForward := 0, lossReverse := 0, modeTicks := 0, search := .start,
             trialDue := false }).ringNotice cause

/-! ## Survey -/

/-- R18: the RAW set, ascending. -/
def Survey.rawSet (x : Survey) : List Nat :=
  (indexes 48).filterMap fun c =>
    match x.channels.get c with
    | some (.mapped e) => if e.raw then some (ordinal c) else none
    | _ => none

/-- R1: a channel entry that is mapped. -/
def Survey.mapped (x : Survey) (c : Chan) : Option MappedChannel :=
  match x.channels.get c with
  | some (.mapped e) => some e
  | _ => none

/-- R1: the mapped entry of a channel number. -/
def Survey.channel (x : Survey) (c : Nat) : Option MappedChannel := (ofNumber 48 c).bind x.mapped

/-- R8: a change of survey state with its SURVEY notice. -/
def State.moveSurvey (next : SurveyState) (cause : SurveyCause) (s : State) : State :=
  let s := s.mapSurvey fun x => { x with state := next }
  s.offer (.survey next s.survey.number cause)

/-- R108: an entry is SENT. -/
def SagStatus.isSent : SagStatus → Bool
  | .sent _ => true
  | _ => false

/-- R15: CLOSING ends when every sag and interval entry is SENT. -/
def State.testDrained (s : State) : State :=
  if s.survey.state = .closing ∧ s.events.sags.all (fun e => e.status.isSent) = true ∧
      s.harmonics.intervals.all (fun e => e.sent) = true then
    s.moveSurvey .closed .drained
  else s

end Sys2Proof.Machine
end

