-- ==== Sys2Proof/Machine/Notes.lean ====
section
/-! DEFINITION. Site Notes (07): the survey identity, notes and text segments, keeps, marks, and the note directives. -/

namespace Sys2Proof.Machine

/-! ## Text segments (R138) -/

/-- R138: the segments of a text whose first segment is taken at place `i`. -/
def segmentsAt (i : Nat) : List (List Byte) → List Segment
  | [] => []
  | [c] => [⟨c, none⟩]
  | c :: cs => ⟨c, some (i + 1)⟩ :: segmentsAt (i + 1) cs

/-- R138: the segments a text takes. -/
def segmentsFor (length : Nat) : Nat := ceilDiv length Config.segmentChars

/-- R138: the free count. -/
def Notes.freeSegments (x : Notes) : Nat := Config.segmentCount - x.segments.length

/-- R140, R144: a text written into new segments, and the first segment of its chain. -/
def Notes.writeText (t : List Byte) (x : Notes) : Notes × Option Nat :=
  ({ x with segments := x.segments ++ segmentsAt x.segments.length (pieces Config.segmentChars t) },
   if t.isEmpty then none else some x.segments.length)

/-- R138: the characters of a chain, followed through its next links. -/
def readChain (segments : List Segment) : Nat → Option Nat → List Byte
  | 0, _ => []
  | _ + 1, none => []
  | fuel + 1, some i =>
    match segments[i]? with
    | none => []
    | some g => g.chars ++ readChain segments fuel g.next

/-- R137: the text of a note; a chain holds at most 15 segments. -/
def Notes.textOf (x : Notes) (n : Note) : List Byte := readChain x.segments 15 n.chain

/-! ## The note table (R137) -/

/-- R137: the note of a number. -/
def Notes.note (x : Notes) (n : Nat) : Option Note := if n = 0 then none else x.notes[n - 1]?

/-- R140: a note created takes the next number, which joins the pending set. -/
def Notes.create (n : Note) (x : Notes) : Notes :=
  { x with notes := x.notes ++ [n], pending := insertRising (x.notes.length + 1) x.pending }

/-- R144, R145, R150: a note that leaves LIVE; its number joins the pending set. -/
def Notes.retire (n : Nat) (state : NoteState) (x : Notes) : Notes :=
  { x with notes := x.notes.modify (n - 1) (fun m => { m with state := state }), pending := insertRising n x.pending }

/-! ## Keeps (R141, R142) -/

/-- R108: a retained entry is one in the UNSENT or SENT state. -/
def SagStatus.retained : SagStatus → Bool
  | .opened => false
  | _ => true

/-- R108: the retained entry of a sag number. -/
def Events.retained (x : Events) (n : Nat) : Option SagEntry :=
  x.sags.find? fun e => decide (e.number = n) && e.status.retained

/-- R108: the keep count of a retained entry changed. -/
def Events.mapKeeps (n : Nat) (f : Nat → Nat) (x : Events) : Events :=
  { x with sags := x.sags.map fun e => if e.number = n ∧ e.status.retained = true then { e with keeps := f e.keeps } else e }

/-- R141: the count of a kept sag number changed. -/
def bumpKept (n : Nat) (f : Nat → Nat) (l : List (Nat × Nat)) : List (Nat × Nat) :=
  l.map fun k => if k.1 = n then (k.1, f k.2) else k

/-- R141: a new sag link is judged for a keep. -/
def State.judgeKeep (n : Nat) (s : State) : State × Bool :=
  if s.notes.kept.any (fun k => decide (k.1 = n)) then
    ((s.mapNotes fun x => { x with kept := bumpKept n (· + 1) x.kept }).mapEvents (Events.mapKeeps n (· + 1)), true)
  else if s.notes.kept.length < Config.keptLimit ∧ (s.events.retained n).isSome = true then
    ((s.mapNotes fun x => { x with kept := x.kept ++ [(n, 1)] }).mapEvents (Events.mapKeeps n (· + 1)), true)
  else (s, false)

/-- R142: the keep of a KEPT link is released; a count of 0 leaves the list. -/
def State.releaseKeep (link : Option SagLink) (s : State) : State :=
  match link with
  | some ⟨n, true⟩ =>
    (s.mapNotes fun x =>
      { x with kept := (bumpKept n (· - 1) x.kept).filter fun k => decide (k.2 ≠ 0) }).mapEvents
      (Events.mapKeeps n (· - 1))
  | _ => s

/-! ## Marks (R146, R147) -/

/-- R146, R147: a MARK note. -/
def markNote (made refer : Nat) (pod : Option Pos) : Note where
  kind := .mark
  made := made
  refer := refer
  sag := none
  interval := none
  pod := pod
  chain := none
  length := 0
  predecessor := none
  state := .live

/-- R147: a new pod mark of a position, at the survey tick count of its sweep. -/
def State.podMark (p : Pos) (s : State) : State :=
  let t := s.survey.tick
  if (s.notes.lastMark.get p).any (fun last => decide (t - last < Config.markWindow)) then s
  else
    let s := s.mapNotes fun x => { x with lastMark := x.lastMark.set p (some t) }
    if s.survey.state = .opened ∧ s.notes.notes.length < Config.noteLimit then
      s.mapNotes (Notes.create (markNote t t (some p)))
    else s.mapNotes fun x => { x with markLost := bump x.markLost }

/-! ## SET-IDENTITY (R136) -/

/-- R192: the optional fields now written, as a bitmap. -/
def Identity.written (i : Identity) : Nat := presence [i.site.isSome, i.crew.isSome, i.client.isSome]

/-- R136: the length checks, field by field. Of several lengths out of range the lowest field is named (entry 46). -/
def identityRanges (f : IdentityFields) : List (Bool × Nat) :=
  [(f.site.all fun t => within 1 8 t.length, 1),
   (f.crew.all fun t => within 1 4 t.length, 2),
   (f.client.all fun t => within 0 24 t.length, 3)]

/-- R136: a given field whose written mark is set. -/
def identityFree (i : Identity) (f : IdentityFields) : List (Bool × Nat) :=
  [(!(f.site.isSome && i.site.isSome), 1),
   (!(f.crew.isSome && i.crew.isSome), 2),
   (!(f.client.isSome && i.client.isSome), 3)]

def setIdentity (f : IdentityFields) (s : State) : Answer :=
  if s.survey.state ≠ .opened then refuse .notOpen [] s
  else if f.site.isNone && f.crew.isNone && f.client.isNone then refuse .badValue (u8 0) s
  else
    match firstBad (identityRanges f), firstBad (identityFree s.notes.identity f) with
    | some k, _ => refuse .badValue (u8 k) s
    | none, some k => refuse .alreadySet (u8 k) s
    | none, none =>
      let s := s.mapNotes fun x =>
        { x with identity :=
          { x.identity with
            site := f.site.or x.identity.site
            crew := f.crew.or x.identity.crew
            client := f.client.or x.identity.client } }
      accept s (u8 s.notes.identity.written)

def execSetIdentity (tag : Byte) (f : IdentityFields) (s : State) : StepResult :=
  handle tag (.setIdentity f) (setIdentity f) s

/-! ## ADD-NOTE (R139, R140) -/

/-- A sag or interval number as an operand. -/
def linkRange (n : Nat) : Bool := within 1 Config.numberLimit n

/-- R139: the operand checks. Of several operands out of range the lowest place is named (entry 46). -/
def noteRanges (tick : Nat) (f : NoteFields) : List (Bool × Nat) :=
  [((crewKind f.kind).isSome, 1),
   (f.refer.all fun t => decide (t ≤ tick), 2),
   (f.sag.all linkRange, 3),
   (f.interval.all linkRange, 4),
   (f.pod.all (within 1 12), 5),
   (decide (f.text.length ≤ 480), 6)]

/-- R139: links above the last issued numbers. -/
def linksIssued (s : State) (sag interval : Option Nat) : List (Bool × Nat) :=
  [(sag.all fun n => decide (n ≤ s.events.lastSag), 3),
   (interval.all fun n => decide (n ≤ s.harmonics.lastInterval), 4)]

/-- R139: room for a note with a new text of `length` characters. -/
def Notes.hasRoom (length : Nat) (x : Notes) : Bool :=
  decide (x.notes.length < Config.noteLimit) && decide (segmentsFor length ≤ x.freeSegments)

/-- R140, R144: the note number and, with a sag link, its keep state (KEPT 1, UNKEPT 2). -/
def noteReply (n : Nat) (link : Option SagLink) : List Byte :=
  withPresence [link.isSome] (u8 n ++ u8 (match link with | some l => if l.kept then 1 else 2 | none => 0))

/-- R141: a new sag link, judged. -/
def State.newLink (sag : Option Nat) (s : State) : State × Option SagLink :=
  match sag with
  | none => (s, none)
  | some n =>
    let (s, kept) := s.judgeKeep n
    (s, some ⟨n, kept⟩)

def addNote (f : NoteFields) (s : State) : Answer :=
  if s.survey.state ≠ .opened then refuse .notOpen [] s
  else
    match crewKind f.kind, firstBad (noteRanges s.survey.tick f), firstBad (linksIssued s f.sag f.interval) with
    | none, _, _ => refuse .badValue (u8 1) s
    | some _, some k, _ => refuse .badValue (u8 k) s
    | some _, none, some k => refuse .unknownItem (u8 k) s
    | some kind, none, none =>
      if s.notes.hasRoom f.text.length then
        let (s, link) := s.newLink f.sag
        let (notes, chain) := s.notes.writeText f.text
        let note : Note :=
          { kind := kind
            made := s.survey.tick
            refer := f.refer.getD s.survey.tick
            sag := link
            interval := f.interval
            pod := f.pod.bind (ofNumber 12)
            chain := chain
            length := f.text.length
            predecessor := none
            state := .live }
        let s := { s with notes := notes.create note }
        accept s (noteReply s.notes.notes.length link)
      else
        refuse .noRoom (u8 (Config.noteLimit - s.notes.notes.length) ++ u16 s.notes.freeSegments) s

def execAddNote (tag : Byte) (f : NoteFields) (s : State) : StepResult := handle tag (.addNote f) (addNote f) s

/-! ## AMEND-NOTE (R143, R144) -/

/-- The number of a given link. -/
def linkNumber : LinkArg → Option Nat
  | .given n => some n
  | _ => none

/-- R143: the operand checks, place 0 being the note number. Of several operands out of range the lowest place is named
(entry 46). -/
def amendRanges (tick note : Nat) (f : AmendFields) : List (Bool × Nat) :=
  [(within 1 128 note, 0),
   (f.kind.all fun k => (crewKind k).isSome, 1),
   (f.refer.all fun t => decide (t ≤ tick), 2),
   ((linkNumber f.sag).all linkRange, 3),
   ((linkNumber f.interval).all linkRange, 4),
   ((linkNumber f.pod).all (within 1 12), 5),
   (f.text.all fun t => decide (t.length ≤ 480), 6)]

/-- R143: what a link operand leaves, NONE giving no link. -/
def settleLink (old : Option Nat) : LinkArg → Option Nat
  | .leftOut => old
  | .none => Option.none
  | .given n => some n

/-- R144 step 4: the sag link of the successor: inherited with its keep state, or the old keep released and the new link
judged. -/
def State.amendLink (old : Option SagLink) (arg : LinkArg) (s : State) : State × Option SagLink :=
  match arg with
  | .leftOut => (s, old)
  | .none => (s.releaseKeep old, none)
  | .given n =>
    if old.any (fun l => decide (l.sag = n)) then (s, old) else (s.releaseKeep old).newLink (some n)

/-- R143: the result data of a note that is not LIVE: its state and its successor. -/
def noteStateData (state : NoteState) : List Byte :=
  match state with
  | .amended n => withPresence [true] (u8 (codeNoteState state) ++ u8 n)
  | _ => withPresence [false] (u8 (codeNoteState state) ++ u8 0)

/-- R144: the successor of `old` (number `n`) and the old note's retirement. -/
def amend (n : Nat) (old : Note) (f : AmendFields) (s : State) : Answer :=
  let (s, link) := s.amendLink old.sag f.sag
  let (notes, chain, length) :=
    match f.text with
    | some t =>
      let (x, c) := s.notes.writeText t
      (x, c, t.length)
    | none => (s.notes, old.chain, old.length)
  let note : Note :=
    { kind := (f.kind.bind crewKind).getD old.kind
      made := s.survey.tick
      refer := f.refer.getD old.refer
      sag := link
      interval := settleLink old.interval f.interval
      pod := (settleLink (old.pod.map ordinal) f.pod).bind (ofNumber 12)
      chain := chain
      length := length
      predecessor := some n
      state := .live }
  let successor := notes.notes.length + 1
  let s := { s with notes := (notes.create note).retire n (.amended successor) }
  accept s (noteReply successor link)

def amendNote (n : Nat) (f : AmendFields) (s : State) : Answer :=
  if s.survey.state ≠ .opened then refuse .notOpen [] s
  else
    match firstBad (amendRanges s.survey.tick n f), s.notes.note n,
        firstBad (linksIssued s (linkNumber f.sag) (linkNumber f.interval)) with
    | some k, _, _ => refuse .badValue (u8 k) s
    | none, none, _ => refuse .unknownItem (u8 0) s
    | none, some _, some k => refuse .unknownItem (u8 k) s
    | none, some old, none =>
      if old.state ≠ .live then refuse .badState (noteStateData old.state) s
      else if decide (s.notes.notes.length < Config.noteLimit) &&
          f.text.all (fun t => decide (segmentsFor t.length ≤ s.notes.freeSegments)) then
        amend n old f s
      else refuse .noRoom [] s

def execAmendNote (tag : Byte) (n : Nat) (f : AmendFields) (s : State) : StepResult :=
  handle tag (.amendNote n f) (amendNote n f) s

/-! ## WITHDRAW-NOTE, MARK and READ-NOTE (R145, R146, R149) -/

def withdrawNote (n : Nat) (s : State) : Answer :=
  if s.survey.state ≠ .opened then refuse .notOpen [] s
  else if within 1 128 n then
    match s.notes.note n with
    | none => refuse .unknownItem [] s
    | some note =>
      if note.state ≠ .live then refuse .badState (u8 (codeNoteState note.state)) s
      else accept ((s.releaseKeep note.sag).mapNotes (Notes.retire n .withdrawn)) (u8 n)
  else refuse .badValue [] s

def execWithdrawNote (tag : Byte) (n : Nat) (s : State) : StepResult :=
  handle tag (.withdrawNote n) (withdrawNote n) s

def markDirective (s : State) : Answer :=
  if s.survey.state ≠ .opened then
    refuse .notOpen [] (s.mapNotes fun x => { x with markLost := bump x.markLost })
  else if s.notes.notes.length < Config.noteLimit then
    let s := s.mapNotes (Notes.create (markNote s.survey.tick s.survey.tick none))
    accept s (u8 s.notes.notes.length)
  else refuse .noRoom [] (s.mapNotes fun x => { x with markLost := bump x.markLost })

def execMark (tag : Byte) (s : State) : StepResult := handle tag .mark markDirective s

/-- R150: the note as a record frame or READ-NOTE carries it. -/
def Notes.body (x : Notes) (n : Nat) (note : Note) : NoteBody := ⟨n, note, x.textOf note⟩

def readNote (which : NoteSelector) (s : State) : Answer :=
  match which with
  | .identity => accept s (identityBytes s.notes.identity)
  | .note n =>
    if within 1 128 n then
      match s.notes.note n with
      | none => refuse .unknownItem [] s
      | some note => accept s (noteBytes (s.notes.body n note))
    else refuse .badValue [] s

def execReadNote (tag : Byte) (which : NoteSelector) (s : State) : StepResult :=
  handle tag (.readNote which) (readNote which) s

/-! ## NOTE_RECORD_EMIT (R150) -/

/-- R150: with room in the record queue, the frame of the lowest pending note is offered and the number leaves the set. -/
def execNoteRecordEmit (s : State) : StepResult :=
  match s.notes.pending with
  | [] => .next s
  | n :: rest =>
    match s.notes.note n with
    | none => .next s
    | some note =>
      if 0 < s.link.recordRoom then
        .next ((s.mapLink (Link.accept [.note (s.notes.body n note)])).mapNotes fun x => { x with pending := rest })
      else .next s

end Sys2Proof.Machine
end

