-- ==== Sys2Proof/Machine/Ring.lean ====
section
/-! DEFINITION. The Pod Ring (02) and the joining of pods (03, R47 to R50): sweeps, the request slot and its outcomes,
latches and reports at the close of a tick, search, settlement and healing. -/

namespace Sys2Proof.Machine

/-! ## Joining (R44, R48, R49) -/

/-- R44: the kind of each pod channel by type code; an invalid code decodes no channel. -/
def decodeType : Nat → List (Option Measure)
  | 1 => [some .voltage, some .voltage, some .voltage, some .voltage]
  | 2 => [some .voltage, some .voltage, some .voltage, some .current]
  | 3 => [some .current, some .current, some .current, some .current]
  | 4 => [some .current, some .current, some .current, none]
  | 5 => [some .voltage, none, none, none]
  | 6 => [some .voltage, some .voltage, some .current, some .current]
  | _ => [none, none, none, none]

/-- 00_scope.md "Numbering": the channel number of pod channel `k` at a position. -/
def channelOf (p : Pos) (k : Nat) : Nat := p.val * 4 + k + 1

/-- R48: the join readings match the tables. A channel that is not mapped is not compared, even when its range reading is above
255, which R190 says ends the join in MISMATCH (DEDUCED, unsafe, entry 65). -/
def State.joinMatches (p : Pos) (s : State) : Bool :=
  let readings := (s.pod p).readings
  let typ := readings.get 0
  decide (typ = some (s.pods.entry p).typeCode) &&
  ([0, 1, 2, 3] : List (Fin 4)).all fun k =>
    match s.survey.channel (channelOf p k.val) with
    | none => true
    | some c =>
      decide (nth none (decodeType (typ.getD 0)) k.val = some c.kind) && decide (readings.get k.succ = some c.range)

/-- R48: the fifth reading has been stored and the readings are compared. -/
def State.compareJoin (p : Pos) (s : State) : State :=
  if s.joinMatches p then s.mapPods fun x => { x with joins := queueJoin ⟨p, 5⟩ x.joins }
  else s.movePod p .mismatch .mismatch

/-- R40: how a placed transaction ends. -/
inductive TxOutcome where
  | answered (value : Nat)
  | refused (code : Nat)
  | noAnswer
  | withdrawn
  deriving DecidableEq, Repr

/-- R47 to R49: the outcome of a join transaction, for a pod in JOINING. A withdrawn outcome is discarded. -/
def State.joinOutcome (t : Transaction) (o : TxOutcome) (s : State) : State :=
  let p := t.target
  if (s.pod p).state ≠ .joining then s
  else
    match o with
    | .withdrawn => s
    | .refused _ => s.fatal p .noJoin
    | .noAnswer => if s.ring.unreachable.get p then s.joinUnreachable p else s.fatal p .noJoin
    | .answered v =>
      if t.op = .joinWrite then
        (s.mapPod p fun r => { r with silence := 0, quiet := some 0 }).movePod p .active .joined
      else
        match ofNumber 5 (t.parameter + 1) with
        | none => s
        | some k =>
          let s := s.mapPod p fun r => { r with readings := r.readings.set k (some v) }
          if (s.pod p).readings.items.all Option.isSome then s.compareJoin p else s

/-- R58: the outcome of a host transaction fills its reserved reply; a range write to an ACTIVE pod starts a re-join. -/
def State.hostOutcome (t : Transaction) (o : TxOutcome) (s : State) : State :=
  match o with
  | .answered v =>
    let s := s.fillReserved .ok (u16 v)
    if t.op = .write ∧ within 1 4 t.parameter = true ∧ (s.pod t.target).state = .active then s.rejoin t.target .rejoin
    else s
  | .refused c => s.fillReserved .podRefused (u16 c)
  | .noAnswer => s.fillReserved .noAnswer []
  | .withdrawn => s.fillReserved .aborted []

/-- R40: a transaction ends: its client takes the outcome, the slot is free, and a waiting join transaction is placed
(R39; the client acts before the next placement, entry 13). -/
def State.endTransaction (t : Transaction) (o : TxOutcome) (s : State) : State :=
  let s := s.mapRing fun r => { r with request := none }
  (match t.client with
   | .join => s.joinOutcome t o
   | .host _ _ => s.hostOutcome t o).placeJoin

/-! ## Dispatch (R21, R23, R24) -/

/-- R21: the enabled positions a sweep passes, its turn included. -/
def sweepPath (x : Pods) (d : Direction) (turn : Nat) : List Pos :=
  (indexes 12).filter fun p =>
    x.enabled p &&
    (match d with
     | .forward => decide (ordinal p ≤ turn)
     | .reverse => decide (turn ≤ ordinal p) && decide (ordinal p ≤ x.pMax))

/-- R23, R40: a sweep as dispatched. Probes carry an empty request slot; the others carry the transaction of the slot when
their path includes its target. So the two sweeps of a SPLIT tick differ in their request slots: R23's last sentence says
that both carry the same, and R40 is followed (entry 51). -/
def makeSweep (x : Pods) (request : Option Transaction) (kind : SweepKind) (d : Direction) (turn : Nat) : Sweep where
  kind := kind
  direction := d
  turn := turn
  full := decide (d = .forward) && decide (turn = x.pMax)
  path := sweepPath x d turn
  request :=
    match kind with
    | .probe => none
    | _ => request.filter fun t => (sweepPath x d turn).contains t.target
  returned := none

/-- R30, R31: the probe of this tick. -/
def nextProbe (pMax : Nat) : SearchPhase → SearchPhase × Option (Direction × Nat)
  | .start => if pMax = 0 then (.start, none) else (.forwardProbe pMax, some (.forward, pMax))
  | .forwardProbe t => (.forwardProbe t, some (.forward, t))
  | .reverseProbe f t => (.reverseProbe f t, some (.reverse, t))

/-- R34: the tick is a healing tick. -/
def Ring.healingTick (r : Ring) : Bool :=
  (decide (r.mode = .reverse) || decide (r.mode = .split)) && decide (0 < r.modeTicks) &&
  decide (r.modeTicks % Config.modePeriod = 0)

/-- R24: the regular sweeps of a mode, as directions and turns. -/
def regularTurns (r : Ring) (pMax : Nat) : List (Direction × Nat) :=
  match r.mode with
  | .forward => if pMax = 0 then [] else [(.forward, pMax)]
  | .reverse => [(.reverse, 1)]
  | .split =>
    (if r.tf ≠ 0 then [(Direction.forward, r.tf)] else []) ++ (if r.tr ≠ 0 then [(Direction.reverse, r.tr)] else [])
  | .search | .down => []

/-- R24, R34: the sweeps of the ring mode are dispatched. On a healing tick the regular sweeps are left out and a trial
sweep is due (entry 36). -/
def Ring.dispatch (x : Pods) (r : Ring) : Ring :=
  let pMax := x.pMax
  match r.mode with
  | .search =>
    let (phase, probe) := nextProbe pMax r.search
    { r with
      search := phase
      trialDue := false
      sweeps := probe.toList.map fun (d, t) => makeSweep x none .probe d t }
  | _ =>
    if r.healingTick then { r with sweeps := [], trialDue := true }
    else
      { r with
        trialDue := false
        sweeps := (regularTurns r pMax).map fun (d, t) => makeSweep x r.request .regular d t }

/-- R34: the trial sweep, turned at P_max, in place of the tick's regular sweeps. -/
def execTrialSweep (s : State) : StepResult :=
  if s.ring.tickOpen = true ∧ s.ring.trialDue = true then
    .next (s.mapRing fun r =>
      { r with trialDue := false, sweeps := [makeSweep s.pods r.request .trial .forward s.pods.pMax] })
  else .next s

/-! ## A returned frame (R25, R37, R190) -/

/-- R190: a pod slot read back: the present byte by its bit 0. -/
def readSlot (frame : List Byte) (i : Nat) : Slot :=
  let b := (frame.drop (13 + 11 * i)).take 11
  { present := (nth 0#8 b 0).getLsbD 0
    status := BitVec.ofNat 16 (beNat ((b.drop 1).take 2))
    samples := (List.range 4).map fun k => signed16 (beNat ((b.drop (3 + 2 * k)).take 2)) }

/-- R25: the frame is intact: 147 bytes with a passing check sequence. -/
def frameIntact (frame : List Byte) : Bool :=
  decide (frame.length = 147) && decide ((crc (frame.take 145)).toNat = beNat (frame.drop 145))

/-- R21: the port a sweep leaves and returns at. -/
def portOf : Direction → Port
  | .forward => .forwardPort
  | .reverse => .returnPort

/-- R25: the frame is the return of this sweep: at the port it left, with its sweep number and direction. -/
def returnsTo (r : Ring) (port : Port) (frame : List Byte) (w : Sweep) : Bool :=
  w.returned.isNone && decide (portOf w.direction = port) &&
  decide (beNat (frame.take 2) = r.sweepNumber) && decide ((nth 0#8 frame 2).toNat = codeDirection w.direction)

/-- R25: an intact frame within the deadline of the tick in progress that is the return of some awaited sweep. -/
def Ring.awaits (r : Ring) (port : Port) (frame : List Byte) (scan : Nat) : Bool :=
  r.tickOpen && decide (scan ≤ Config.scanDeadline) && frameIntact frame && r.sweeps.any (returnsTo r port frame)

/-- R37: a returned sweep updates the scan times. -/
def Ring.scanned (scan : Nat) (r : Ring) : Ring :=
  { r with
    scanCurrent := some scan
    scanMax := max r.scanMax scan
    scanMin := some (match r.scanMin with | some m => min m scan | none => scan) }

/-- R25: the sweep is marked returned, with its slots. -/
def Ring.markReturned (port : Port) (frame : List Byte) (r : Ring) : Ring :=
  { r with sweeps := r.sweeps.map fun w =>
      if returnsTo r port frame w then { w with returned := some ((List.range 12).map (readSlot frame)) } else w }

/-- R40, R190: the answer of a returned frame for the transaction in the slot: DONE or REFUSED, with its transaction
number and target. An answer kind above 2 counts as EMPTY. -/
def frameAnswer (frame : List Byte) (t : Transaction) : Option TxOutcome :=
  if (nth 0#8 frame 4).toNat = ordinal t.target ∧ (nth 0#8 frame 5).toNat = t.number then
    match (nth 0#8 frame 10).toNat with
    | 1 => some (.answered (beNat ((frame.drop 11).take 2)))
    | 2 => some (.refused (beNat ((frame.drop 11).take 2)))
    | _ => none
  else none

/-- R40: an answer brought back ends the transaction. -/
def State.takeAnswer (frame : List Byte) (s : State) : State :=
  match s.ring.request with
  | none => s
  | some t =>
    match frameAnswer frame t with
    | none => s
    | some o => s.endTransaction t o

/-- SWEEP_RETURN: the frame is taken as the awaited sweep, its scan time measured and its answer handed on, or discarded
(R25). A join answer takes effect here, within the tick (entry 52). -/
def execSweepReturn (port : Port) (frame : List Byte) (scan : Nat) (s : State) : StepResult :=
  if s.ring.awaits port frame scan then
    .next ((s.mapRing fun r => (r.markReturned port frame).scanned scan).takeAnswer frame)
  else .next s

/-! ## Latches and reports at the close of a tick (R26, R27) -/

/-- The slots of a position that returned sweeps of the given kinds had on their path. -/
def Ring.slotsOf (kinds : List SweepKind) (p : Pos) (r : Ring) : List Slot :=
  r.sweeps.filterMap fun w =>
    if kinds.contains w.kind && w.path.contains p then
      w.returned.map fun slots => nth ⟨false, 0#16, []⟩ slots p.val
    else none

/-- R28: the regular sweeps of the tick that have not returned. -/
def Ring.lostSweeps (r : Ring) : List Sweep :=
  r.sweeps.filter fun w => decide (w.kind = .regular) && w.returned.isNone

/-- R34: a trial sweep of the tick returned. -/
def Ring.trialReturned (r : Ring) : Bool :=
  r.sweeps.any fun w => decide (w.kind = .trial) && w.returned.isSome

/-- R26: the latch of a channel at the close of the tick. A returned trial sweep is handled as a FORWARD sweep, which
leaves no position unreachable (R34). Of two sweeps of a SPLIT tick over the position of which one brought a present slot back,
that one counts (DESIGN CHOICE, unsafe, entry 63). -/
def closeLatch (r : Ring) (x : Pods) (c : Chan) : Latch :=
  let p : Pos := ⟨c.val / 4, by omega⟩
  let k := c.val % 4
  let held : Latch := { r.latches.get c with gap := true, clip := false }
  match (r.slotsOf [.regular, .trial] p).find? (fun w => w.present) with
  | none => held
  | some w =>
    if r.lostSweeps.isEmpty && decide ((x.records.get p).state = .active) &&
        (r.trialReturned || !(r.unreachable.get p)) && !(clampOpen w.status k) then
      ⟨nth 0 w.samples k, false, overload w.status k⟩
    else held

/-- R26: every latch is set. -/
def State.setLatches (s : State) : State :=
  s.mapRing fun r => { r with latches := Table.tabulate 48 (closeLatch r s.pods) }

/-- R27: the report of one position: covered by a regular or trial sweep, from a probe, or not covered; with the status of
a slot that came back present. -/
structure Report where
  covered : Bool
  status : Option (BitVec 16)
  deriving DecidableEq, Repr

/-- R27: the report of a position. A probe's report is given for a present slot only, and does not count as covered. Of several
slots the first present one is reported, the forward sweep's before the reverse one's (DESIGN CHOICE, unsafe, entry 63). R27 gives
a probe's report for every position on its path, and R32 and R51 give one of the unreachable set not-covered reports only: the model
hands the probe's report on there too (DESIGN CHOICE, unsafe, entry 71). -/
def Ring.report (p : Pos) (r : Ring) : Report :=
  let slots := r.slotsOf [.regular, .trial] p
  let probes := r.slotsOf [.probe] p
  { covered := !slots.isEmpty
    status := ((slots ++ probes).find? fun w => w.present).map fun w => w.status }

/-- R46 steps 3 to 5: the effects of a present report on the state of the pod. A pod in POWERING moves to JOINING on a covered
and on a probe report, as R46 says, also one that R49 sent back to POWERING as unreachable, which R49's last sentence has join
again from its first covered report (DESIGN CHOICE, unsafe, entry 68). -/
def State.presentEffects (p : Pos) (status : BitVec 16) (s : State) : State :=
  if overtemp status = true ∧ internalFault status = true then
    s.fatalWith p (if Config.bothFaultsNameInternal then .internal else .overtemp) [.overtemp, .internal]
  else if overtemp status then s.fatal p .overtemp
  else if internalFault status then s.fatal p .internal
  else
    match (s.pod p).state with
    | .powering => (s.movePod p .joining .present).startJoin p
    | .active => if unjoined status then s.rejoin p .rejoin else s
    | _ => s

/-- R46 step 1, R60: the fault word and history, and the mark level. -/
def PodRecord.present (status : BitVec 16) (r : PodRecord) : PodRecord :=
  { r with fault := faultBits status, history := r.history ||| faultBits status, mark := markBit status }

/-- R46: a present report of a supervised pod. -/
def State.applyPresent (p : Pos) (status : BitVec 16) (s : State) : State :=
  let old := s.pod p
  let s := s.mapPod p (PodRecord.present status)
  let s := if supplyLow status && !(supplyLow old.fault) then s.podNotice p old.state .supplyLow else s
  let s := if markBit status && !old.mark then s.podMark p else s
  s.presentEffects p status

/-- R47, R51: what a covered report counts: the powering count in POWERING; in ACTIVE the silence count, which a present
slot returns to 0. -/
def PodRecord.covered (present : Bool) (r : PodRecord) : PodRecord :=
  match r.state with
  | .powering => { r with powering := r.powering + 1 }
  | .active => { r with silence := if present then 0 else min (r.silence + 1) 255 }
  | _ => r

/-- R46, R47, R51: one report is applied. A pod that is not supervised ignores it. -/
def State.applyReport (p : Pos) (rep : Report) (s : State) : State :=
  let s := if rep.covered then s.mapPod p (PodRecord.covered rep.status.isSome) else s
  match rep.status with
  | none => s
  | some status => if supervised (s.pod p).state then s.applyPresent p status else s

/-- R27, R46: one report per enabled position, applied by rising position (entry 42). -/
def State.applyReports (s : State) : State :=
  (indexes 12).foldl (fun t p => if s.pods.enabled p then t.applyReport p (s.ring.report p) else t) s

/-! ## Settlement, healing, ring fault (R28 to R36) -/

/-- R33: the loop-error set emptied. -/
def Ring.clearLoopErrors (r : Ring) : Ring :=
  { r with loopForward := Table.replicate 12 false, loopReverse := Table.replicate 12 false }

/-- A position number added to a set. -/
def addPosition (n : Nat) (set : Table Bool 12) : Table Bool 12 :=
  match ofNumber 12 n with
  | some p => set.set p true
  | none => set

/-- R33: the positions a settlement in a mode other than FORWARD adds. -/
def Ring.addLoopErrors (pMax : Nat) (r : Ring) : Ring :=
  { r with
    loopForward := if r.tf < pMax then addPosition (r.tf + 1) r.loopForward else r.loopForward
    loopReverse :=
      if 2 ≤ r.tr then addPosition (r.tr - 1) r.loopReverse
      else if r.tr = 0 then addPosition pMax r.loopReverse
      else r.loopReverse }

/-- R36: the turn record and the loop-switch counter at a settlement or heal. -/
def Ring.recordTurns (mode : RingMode) (pMax : Nat) (r : Ring) : Ring :=
  { r with
    turnForward :=
      match mode with
      | .forward => some pMax
      | .split => if r.tf ≠ 0 then some r.tf else r.turnForward
      | _ => r.turnForward
    turnReverse :=
      match mode with
      | .reverse => some 1
      | .split => if r.tr ≠ 0 then some r.tr else r.turnReverse
      | _ => r.turnReverse
    switches := if r.lastSettled.any (fun m => decide (m ≠ mode)) then bump r.switches else r.switches
    lastSettled := some mode }

/-- R32: the unreachable set recomputed: the enabled positions that are not reachable. -/
def Ring.recomputeUnreachable (x : Pods) (r : Ring) : Ring :=
  { r with unreachable := Table.tabulate 12 fun p => x.enabled p && !(r.reachable x.pMax p) }

/-- R31: the mode in which a search settles. -/
def settledMode (pMax tf tr : Nat) : RingMode :=
  if tf = pMax then .forward
  else if tr = 1 then .reverse
  else if tf = 0 ∧ tr = 0 then .down
  else .split

/-- R49: the pods in JOINING whose positions stand in the unreachable set after a settlement go back to POWERING. R49 speaks of a
settlement that puts the position into the set; one that was in it before and stays in it counts as put into it (DESIGN CHOICE,
unsafe, entry 67). -/
def State.joinsUnreachable (s : State) : State :=
  (indexes 12).foldl
    (fun t p => if t.ring.unreachable.get p = true ∧ (t.pod p).state = .joining then t.joinUnreachable p else t) s

/-- R31 to R33, R36, R38: the search settles with the turn positions found. The RING notice SETTLE is offered first, then the
POD notices UNREACHABLE of R49 by rising position (entry 43). -/
def State.settle (tf tr : Nat) (s : State) : State :=
  let pMax := s.pods.pMax
  let mode := settledMode pMax tf tr
  let s := s.mapRing fun r =>
    let r := { r with mode := mode, tf := tf, tr := tr, modeTicks := 0, search := .start }
    let r := (r.recordTurns mode pMax).recomputeUnreachable s.pods
    if mode = .forward then r.clearLoopErrors else r.addLoopErrors pMax
  (s.ringNotice .settle).joinsUnreachable

/-- R30, R31: the result of the tick's probe. -/
def State.judgeProbe (w : Sweep) (s : State) : State :=
  let pMax := s.pods.pMax
  let phase (x : SearchPhase) : State := s.mapRing fun r => { r with search := x }
  match s.ring.search, w.returned.isSome with
  | .start, _ => s
  | .forwardProbe t, true => if t = pMax then s.settle pMax 0 else phase (.reverseProbe t 1)
  | .forwardProbe t, false => if t ≤ 1 then phase (.reverseProbe 0 1) else phase (.forwardProbe (t - 1))
  | .reverseProbe f t, true => s.settle f t
  | .reverseProbe f t, false => if pMax ≤ t then s.settle f 0 else phase (.reverseProbe f (t + 1))

/-- R34: a trial sweep returned: the mode becomes FORWARD. -/
def State.heal (s : State) : State :=
  let pMax := s.pods.pMax
  (s.mapRing fun r =>
    let r := { r with mode := .forward, tf := pMax, tr := 0, modeTicks := 0,
                      unreachable := Table.replicate 12 false }
    (r.recordTurns .forward pMax).clearLoopErrors).ringNotice .heal

/-- R28: the consecutive-loss count of one path after the tick. -/
def lossAfter (sweeps : List Sweep) (d : Direction) (count : Nat) : Nat :=
  match sweeps.find? (fun w => decide (w.kind = .regular) && decide (w.direction = d)) with
  | none => count
  | some w => if w.returned.isSome then 0 else min (count + 1) 3

/-- R28: the lost sweeps of the tick counted. The loss counts stand still in SEARCH and DOWN (entry 12). -/
def Ring.countLosses (r : Ring) : Ring :=
  let r' := { r with lost := bumpBy r.lost r.lostSweeps.length }
  match r.mode with
  | .forward | .reverse | .split =>
    { r' with lossForward := lossAfter r.sweeps .forward r.lossForward
              lossReverse := lossAfter r.sweeps .reverse r.lossReverse }
  | .search | .down => r'

/-- R33: a full forward sweep returned in the tick: a probe or trial turned at P_max, or a regular sweep in FORWARD. -/
def Ring.fullReturned (r : Ring) : Bool :=
  r.sweeps.any fun w =>
    w.full && w.returned.isSome && (decide (w.kind ≠ .regular) || decide (r.mode = .forward))

/-- R28 to R34: the sweeps of the tick judged at its close. A full forward sweep that returned (a trial, or the probe of an
abandoned search turned at P_max) empties the loop-error set even when RESTART or LOAD-POD has entered SEARCH in the same
tick; the unreachable set stays until the new search settles (entry 12). -/
def State.judgeSweeps (s : State) : State :=
  let s := s.mapRing fun r => let r := r.countLosses; if r.fullReturned then r.clearLoopErrors else r
  if s.ring.lossForward = 3 ∨ s.ring.lossReverse = 3 then (s.enterSearch .fault).latch .ringFault none
  else
    match s.ring.mode with
    | .search =>
      match s.ring.sweeps.find? (fun w => decide (w.kind = .probe)) with
      | some w => s.judgeProbe w
      | none => s
    | .reverse | .split => if s.ring.trialReturned then s.heal else s
    | .forward | .down => s

/-! ## DOWN_RETRY and TRANSACTION_TIMEOUT (R35, R40) -/

/-- R35: the 10,240th tick in DOWN has closed. -/
def State.downRetryDue (s : State) : Bool :=
  decide (s.ring.mode = .down) && decide (Config.modePeriod ≤ s.ring.modeTicks) && !s.ring.tickOpen

/-- R35: SEARCH is entered with cause RETRY. -/
def State.downRetry (s : State) : State := if s.downRetryDue then s.enterSearch .retry else s

def execDownRetry (s : State) : StepResult := .next s.downRetry

/-- R40: the 2,048th tick after placement has closed. -/
def State.timeoutDue (s : State) : Bool :=
  s.ring.request.any (fun t => decide (Config.transactionTicks ≤ t.age)) && !s.ring.tickOpen

/-- R40: a transaction that no answer ended. -/
def State.transactionTimeout (s : State) : State :=
  match s.ring.request with
  | none => s
  | some t => if s.timeoutDue then s.endTransaction t .noAnswer else s

def execTransactionTimeout (s : State) : StepResult := .next s.transactionTimeout

end Sys2Proof.Machine
end

