-- ==== Sys2Proof/Machine/Pods.lean ====
section
/-! DEFINITION. Pod Upkeep (03): the pod timers, the feed-drained inputs, LOAD-POD and the pod and kit directives. Each
timed step is a change of state that does nothing while it is not due (entry 1); TICK_START takes those still due
(entry 4). -/

namespace Sys2Proof.Machine

/-! ## Timed steps -/

/-- R47: the powering count has reached 20,480 and the tick has closed. -/
def State.poweringDue (s : State) (p : Pos) : Bool :=
  decide ((s.pod p).state = .powering) && decide (Config.poweringTicks ≤ (s.pod p).powering) && !s.ring.tickOpen

/-- R47: NO_JOIN. A slot that the pod's withdrawn join leaves free takes the next one waiting (R39). -/
def State.poweringTimeout (p : Pos) (s : State) : State :=
  if s.poweringDue p then (s.fatal p .noJoin).placeJoin else s

def execPoweringTimeout (p : Pos) (s : State) : StepResult := .next (s.poweringTimeout p)

/-- R51: the silence count of an ACTIVE pod has reached the limit of its entry and the tick has closed. -/
def State.silenceDue (s : State) (p : Pos) : Bool :=
  decide ((s.pod p).state = .active) && decide ((s.pods.entry p).silence ≤ (s.pod p).silence) && !s.ring.tickOpen

/-- R51: SILENT. A slot left free is filled as in R47's case. -/
def State.silenceLimit (p : Pos) (s : State) : State :=
  if s.silenceDue p then (s.fatal p .silent).placeJoin else s

def execSilenceLimit (p : Pos) (s : State) : StepResult := .next (s.silenceLimit p)

/-- The timer of a position has run out and the tick has closed (entry 5). -/
def State.podTimerOver (s : State) (p : Pos) : Bool := (s.pod p).timer.any Timer.over && !s.ring.tickOpen

/-- R54: the off timer expires and the drained wait begins. -/
def State.offTimerExpiry (p : Pos) (s : State) : State :=
  match (s.pod p).state with
  | .off .offTime kind => if s.podTimerOver p then s.enterDrainWait p kind else s
  | _ => s

def execOffTimerExpiry (p : Pos) (s : State) : StepResult := .next (s.offTimerExpiry p)

/-- R54: the feed-drained input of a position changes. Asserted in DRAIN-WAIT it ends the wait; otherwise it is only seen
when a wait begins. -/
def execFeedDrained (p : Pos) (level : Bool) (s : State) : StepResult :=
  let s := s.mapPods fun x => { x with drained := x.drained.set p level }
  match (s.pod p).state with
  | .off .drainWait kind => .next (if level then s.drained p kind else s)
  | _ => .next s

/-- R54: 51,200 ticks have passed in DRAIN-WAIT: FEED_STUCK. The snapshot shows the state before the cause (entry 38). -/
def State.feedStuck (p : Pos) (s : State) : State :=
  ((s.latch (.pod .feedStuck) (some p)).mapPod p fun r =>
    { r with reasons := addReason r.reasons .feedStuck, lastReason := some .feedStuck, timer := none }).movePod p
      .latched .feedStuck

def State.drainWaitTimeout (p : Pos) (s : State) : State :=
  match (s.pod p).state with
  | .off .drainWait _ => if s.podTimerOver p then s.feedStuck p else s
  | _ => s

def execDrainWaitTimeout (p : Pos) (s : State) : StepResult := .next (s.drainWaitTimeout p)

/-- R55: the cooldown expires. -/
def State.cooldownExpiry (p : Pos) (s : State) : State :=
  if (s.pod p).state = .cooldown ∧ s.podTimerOver p = true then
    (s.mapPod p fun r => { r with retry := 0 }).powerUp p .cooldown
  else s

def execCooldownExpiry (p : Pos) (s : State) : StepResult := .next (s.cooldownExpiry p)

/-- R42: the quiet periods in ticks; code 3 has none. -/
def quietTicks : Nat → Option Nat
  | 0 => some 307200
  | 1 => some 1228800
  | 2 => some 6144000
  | _ => none

/-- R55: the quiet timer of an ACTIVE pod has reached the quiet period of its entry and the tick has closed. -/
def State.quietDue (s : State) (p : Pos) : Bool :=
  decide ((s.pod p).state = .active) && !s.ring.tickOpen &&
  (s.pod p).quiet.any fun t => (quietTicks (s.pods.entry p).quiet).any fun q => decide (q ≤ t)

/-- R55: the retry count becomes 0 and the timer stops. -/
def State.quietPeriod (p : Pos) (s : State) : State :=
  if s.quietDue p then s.mapPod p fun r => { r with retry := 0, quiet := none } else s

def execQuietPeriod (p : Pos) (s : State) : StepResult := .next (s.quietPeriod p)

/-! ## LOAD-POD (R42, R43) -/

/-- R43: a position that becomes enabled. -/
def State.enablePod (p : Pos) (s : State) : State :=
  (s.mapPod p fun r => { r with retry := 0, silence := 0, powering := 0, timer := none }).movePod p .powering .table

/-- R43: a position that is no longer enabled. -/
def State.disablePod (p : Pos) (s : State) : State :=
  ((s.withdrawJoins p).mapPod p fun r =>
    { r with retry := 0, silence := 0, fault := 0#16, quiet := none, mark := false, timer := none }).movePod p
      .disabled .table

/-- R32: a position enabled or disabled enters or leaves the unreachable set as the last settlement places it. -/
def State.placeUnreachable (p : Pos) (s : State) : State :=
  s.mapRing fun r =>
    { r with unreachable := r.unreachable.set p (s.pods.enabled p && !(r.reachable s.pods.pMax p)) }

/-- R43: the effect of an accepted load on the record, by whether the position was and is enabled, then P_max and the
unreachable set. The unreachable set is adjusted before SEARCH is entered, so that the TABLE notice of a changed P_max
carries the set as adjusted (entry 41). -/
def State.loadPodEntry (p : Pos) (e : Option PodEntry) (s : State) : State :=
  let before := s.pods.enabled p
  let oldMax := s.pods.pMax
  let s := s.mapPods fun x => { x with table := x.table.set p e }
  let s :=
    match before, entryEnabled e with
    | false, true => (s.enablePod p).placeUnreachable p
    | true, false => (s.disablePod p).placeUnreachable p
    | true, true => s.reload p
    | false, false => s
  let s := if s.pods.pMax = oldMax then s else s.enterSearch .table
  s.placeJoin

def loadPod (index : Nat) (fields : Option PodFields) (s : State) : Answer :=
  match loadChecks 12 s.surveyLock index fields podRanges noCross with
  | .refused r data => refuse r data s
  | .taken p f => accept (s.loadPodEntry p (f.map podEntry)) []

def execLoadPod (tag : Byte) (index : Nat) (fields : Option PodFields) (s : State) : StepResult :=
  handle tag (.loadPod index fields) (loadPod index fields) s

/-! ## POD-READ and POD-WRITE (R58) -/

/-- R58, checks 3 and 4, then the placing of the host transaction; its reply waits. -/
def placeHost (p : Pos) (op : TxOp) (parameter value : Nat) (tag code : Byte) (s : State) : Answer :=
  if (s.pod p).state ≠ .active ∨ s.ring.unreachable.get p = true then refuse .podUnavailable [] s
  else if s.ring.request.isSome then refuse .busy [] s
  else (s.mapRing (Ring.place p op parameter value (.host tag code)), none)

/-- R58: POD-READ. Its transaction carries the value 0 (entry 53). -/
def podRead (tag : Byte) (position parameter : Nat) (s : State) : Answer :=
  match ofNumber 12 position with
  | none => refuse .badValue [] s
  | some p =>
    if within 0 63 parameter then placeHost p .read parameter 0 tag 0x40 s else refuse .badValue [] s

def execPodRead (tag : Byte) (position parameter : Nat) (s : State) : StepResult :=
  handle tag (.podRead position parameter) (podRead tag position parameter) s

def podWrite (tag : Byte) (position parameter value : Nat) (s : State) : Answer :=
  match ofNumber 12 position with
  | none => refuse .badValue [] s
  | some p =>
    if within 0 63 parameter && within 0 65535 value && decide (parameter ≠ 5) then
      if within 1 4 parameter && s.surveyLock then refuse .locked [] s
      else placeHost p .write parameter value tag 0x41 s
    else refuse .badValue [] s

def execPodWrite (tag : Byte) (position parameter value : Nat) (s : State) : StepResult :=
  handle tag (.podWrite position parameter value) (podWrite tag position parameter value) s

/-! ## POD-CYCLE and POD-RELEASE (R56, R57) -/

def podCycle (position : Nat) (s : State) : Answer :=
  match ofNumber 12 position with
  | none => refuse .badValue [] s
  | some p =>
    match (s.pod p).state with
    | .disabled | .latched => refuse .badState [] s
    | _ => accept (s.cyclePod p).placeJoin []

def execPodCycle (tag : Byte) (position : Nat) (s : State) : StepResult :=
  handle tag (.podCycle position) (podCycle position) s

/-- R57: a LATCHED pod goes to DRAIN-WAIT with kind RELEASE, which ends at once when the input is asserted. -/
def State.releasePod (p : Pos) (s : State) : State :=
  let s := (s.mapPod p fun r => { r with retry := 0, timer := some ⟨0, Config.drainWaitTicks⟩ }).movePod p
    (.off .drainWait .release) .release
  if s.pods.drained.get p then s.drained p .release else s

def podRelease (position : Nat) (s : State) : Answer :=
  match ofNumber 12 position with
  | none => refuse .badValue [] s
  | some p => if (s.pod p).state = .latched then accept (s.releasePod p) [] else refuse .badState [] s

def execPodRelease (tag : Byte) (position : Nat) (s : State) : StepResult :=
  handle tag (.podRelease position) (podRelease position) s

/-! ## READ-KIT, READ-SNAPSHOT, CLEAR-SNAPSHOT (R62, R63) -/

def readKit (s : State) : Answer := accept s (kitBytes s.kit)

def execReadKit (tag : Byte) (s : State) : StepResult := handle tag .readKit readKit s

def readSnapshot (s : State) : Answer := accept s (snapshotBytes s.pods.snapshot)

def execReadSnapshot (tag : Byte) (s : State) : StepResult := handle tag .readSnapshot readSnapshot s

def clearSnapshot (s : State) : Answer := accept (s.mapPods fun x => { x with snapshot := none }) []

def execClearSnapshot (tag : Byte) (s : State) : StepResult := handle tag .clearSnapshot clearSnapshot s

end Sys2Proof.Machine
end

