-- ==== Sys2Proof/Machine/Trackers.lean ====
section
/-! DEFINITION. The Cycle Tracker (04): the reference signal, crossings, the filtered half-period, the four states, and the
boundaries with what their announcement carries. A TIMED, FORCED or WHEEL boundary is placed by a step of its own, which
the close of the tick marks as due (entry 8). -/

namespace Sys2Proof.Machine

/-! ## Settings -/

/-- R67: the effective debounce d′. -/
def debounce (d : Nat) : Nat := if d = 0 then 1 else d

/-- R68: the announcement lag D. -/
def lag (g : GroupFields) : Nat := debounce g.d - 1

/-- R69: the nominal half-period in sixteenths of a sample. -/
def nominalPeriod (hz : Nat) : Nat := if hz = 60 then 1365 else 1638

/-- The latch of a channel number. -/
def Ring.latchOf (r : Ring) (c : Nat) : Latch :=
  match ofNumber 48 c with
  | some i => r.latches.get i
  | none => ⟨0, true, false⟩

/-- R66: the reference value. The product is divided truncating toward zero. -/
def reference (r : Ring) (g : GroupFields) : Int :=
  let a := (r.latchOf g.refA).value
  match g.refB with
  | none => a
  | some b => a - Int.tdiv ((g.k : Int) * (r.latchOf b).value) 128

/-! ## Crossings (R67) -/

/-- R67: 0 counts as NON-NEGATIVE. -/
def signOf (r : Int) : Sign := if r < 0 then .negative else .nonNegative

/-- The sign of a crossing into the given settled sign. -/
def edgeInto : Sign → Edge
  | .nonNegative => .rising
  | .negative => .falling

/-- R67: the sample of tick `t` is read; the crossing it confirms, if any, is its instant and sign. -/
def Tracker.sense (d t : Nat) (r : Int) (x : Tracker) : Tracker × Option (Nat × Edge) :=
  match x.settled with
  | none => ({ x with settled := some (signOf r), run := 0 }, none)
  | some s =>
    if signOf r = s then ({ x with run := 0 }, none)
    else
      let start := if x.run = 0 then t else x.runStart
      if d ≤ x.run + 1 then
        ({ x with settled := some (signOf r), run := 0, runStart := start }, some (start, edgeInto (signOf r)))
      else ({ x with run := x.run + 1, runStart := start }, none)

/-! ## The filtered half-period (R69, R70, R71) -/

/-- R69: P̄16 from the last 2^F entries of the history. -/
def filtered (f : Nat) (history : List Nat) : Nat := 16 * (takeLast (2 ^ f) history).sum / 2 ^ f

/-- R69: a half-period is captured, clamped to 78..114, and P̄16 is recomputed. -/
def Tracker.capture (g : GroupFields) (offset : Nat) (x : Tracker) : Tracker :=
  let history := takeLast 8 (x.history ++ [max 78 (min offset 114)])
  { x with history := history, period := filtered g.f history }

/-- R70: the mask and the window limit L from P̄16. -/
def Tracker.limits (g : GroupFields) (x : Tracker) : Tracker :=
  { x with mask := g.m * x.period / 2048, limit := x.period * (128 + g.w) / 2048 }

/-- R71: the next timed length and the residue carried. -/
def Tracker.schedule (x : Tracker) : Tracker :=
  { x with nextLength := (x.residue + x.period) / 16, residue := (x.residue + x.period) % 16 }

/-! ## Boundaries (R79, R80) -/

def Edge.opposite : Edge → Edge
  | .rising => .falling
  | .falling => .rising

/-- The offset of a decision tick from the last boundary. -/
def Tracker.offset (x : Tracker) (i : Nat) : Nat :=
  match x.last with
  | some b => i - b.tick
  | none => i

/-- The sign opposite to the last boundary's. -/
def Tracker.expected (x : Tracker) : Edge :=
  match x.last with
  | some b => b.edge.opposite
  | none => .rising

/-- R70: a crossing of the expected sign with its offset in mask..L. -/
def Tracker.inWindow (x : Tracker) (i : Nat) (e : Edge) : Bool :=
  decide (e = x.expected) && decide (x.mask ≤ x.offset i) && decide (x.offset i ≤ x.limit)

/-- R80: a boundary as the second predecessor of the one after the next. The origin is none, so that the first rising
boundary after it closes no cycle (entry 50). -/
def LastBoundary.asBefore (b : LastBoundary) : Option (Nat × Edge) :=
  if b.kind = .origin then none else some (b.tick, b.edge)

/-- A boundary takes its place as the last one. -/
def Tracker.place (i : Nat) (e : Edge) (kind : BoundaryKind) (x : Tracker) : Tracker :=
  { x with last := some ⟨i, e, kind⟩, before := x.last.bind LastBoundary.asBefore }

/-- R80: a rising boundary after a FALLING one after a RISING one closes the cycle that began at the latter. The origin does
not count as the latter (entry 50). -/
def cycleStart (e : Edge) (last : Option LastBoundary) (before : Option (Nat × Edge)) : Option Nat :=
  match e, last, before with
  | .rising, some b1, some (t0, .rising) => if b1.edge = .falling then some t0 else none
  | _, _, _ => none

/-- R79: the announcement of a boundary at tick `i`: `x` is the tracker before it, `y` after it. -/
def announcement (i : Nat) (e : Edge) (kind : BoundaryKind) (resync : Bool) (x y : Tracker) : Boundary where
  tick := i
  edge := e
  kind := kind
  resync := resync
  length := x.last.map fun b => i - b.tick
  flags :=
    match x.last with
    | some b => halfFlags b.kind kind resync (i - b.tick)
    | none => noHalfFlags
  cycleStart := cycleStart e x.last x.before
  state := y.state
  period := y.period

/-- R81: the frequency in mHz. -/
def frequency (period : Nat) : Nat := 81920000 / period

/-- R82: a TRACKER notice, with P̄16, frequency and counter of the tracker after the change. -/
def trackerNotice (g : Grp) (previous : TrackerState) (cause : TrackerCause) (i : Nat) (y : Tracker) : NoticeBody :=
  .tracker g previous y.state cause i y.period (frequency y.period) y.flywheelEntries

/-- What the decision at one tick gives: the tracker, the boundary announced, and the notices in order. -/
structure Decision where
  tracker : Tracker
  boundary : Option Boundary
  notices : List NoticeBody
  deriving DecidableEq, Repr

/-! ## The states -/

/-- R72: the origin boundary. -/
def Tracker.origin (g : GroupFields) (i : Nat) (x : Tracker) : Decision :=
  let y := ((x.place i .rising .origin).limits g).schedule
  ⟨y, some (announcement i .rising .origin false x y), []⟩

/-- R74: the lock at the crossing that makes the fourth interval. -/
def Tracker.lock (g : GroupFields) (n : Grp) (i : Nat) (e : Edge) (intervals : List Nat) (x : Tracker) : Decision :=
  let history := intervals ++ intervals
  let y :=
    ({ x.place i e .crossing with
       state := .locked
       history := history
       period := filtered g.f history
       intervals := []
       anchor := none
       accepted := 0
       flywheelCount := 0 } : Tracker).limits g
  ⟨y, some (announcement i e .crossing true x y), [trackerNotice n x.state .lock i y]⟩

/-- R74: a crossing counted in LOST or ACQUIRING, when it makes no lock. -/
def Tracker.acquire (i : Nat) (x : Tracker) : Tracker :=
  match x.anchor with
  | none => { x with anchor := some i, state := .lost }
  | some a =>
    if 78 ≤ i - a ∧ i - a ≤ 114 then
      { x with intervals := x.intervals ++ [i - a], anchor := some i, state := .acquiring }
    else { x with intervals := [], anchor := some i, state := .lost }

/-- R74: the crossing completes four intervals. -/
def Tracker.locks (i : Nat) (x : Tracker) : Option (List Nat) :=
  match x.anchor with
  | none => none
  | some a =>
    if 78 ≤ i - a ∧ i - a ≤ 114 ∧ x.intervals.length = 3 then some (x.intervals ++ [i - a]) else none

/-- R75: a crossing accepted in LOCKED. -/
def Tracker.accept (g : GroupFields) (i : Nat) (e : Edge) (x : Tracker) : Decision :=
  let y := ((x.place i e .crossing).capture g (x.offset i)).limits g
  ⟨y, some (announcement i e .crossing false x y), []⟩

/-- R78: a crossing accepted in FLYWHEEL: the first is counted, the second in a row relocks. -/
def Tracker.wheelCrossing (g : GroupFields) (n : Grp) (i : Nat) (e : Edge) (x : Tracker) : Decision :=
  if x.accepted = 0 then
    let y := (({ x.place i e .crossing with flywheelCount := 0, accepted := 1, residue := 0 } : Tracker).limits g).schedule
    ⟨y, some (announcement i e .crossing false x y), []⟩
  else
    let y :=
      (({ x.place i e .crossing with flywheelCount := 0, accepted := 0, state := .locked } : Tracker).capture g
        (x.offset i)).limits g
    ⟨y, some (announcement i e .crossing false x y), [trackerNotice n x.state .relock i y]⟩

/-- R73: a TIMED boundary. -/
def Tracker.timed (g : GroupFields) (i : Nat) (x : Tracker) : Decision :=
  let y := ((x.place i x.expected .timed).limits g).schedule
  ⟨y, some (announcement i x.expected .timed false x y), []⟩

/-- R77: the flywheel count has reached the limit: entry to LOST at the nominal. -/
def Tracker.lose (g : GroupFields) (x : Tracker) : Tracker :=
  (({ x with
      state := .lost
      period := nominalPeriod g.nominal
      residue := 0
      flywheelCount := 0
      accepted := 0
      anchor := none
      intervals := [] } : Tracker).limits g).schedule

/-- R77: after a flywheel boundary the count is compared with the limit; `y` has the boundary placed and counted. -/
def Tracker.judgeLimit (g : GroupFields) (n : Grp) (i : Nat) (y : Tracker) : Tracker × List NoticeBody :=
  if g.flywheel ≤ y.flywheelCount then
    let z := y.lose g
    (z, [trackerNotice n y.state .limit i z])
  else (y, [])

/-- R76: a FORCED boundary and entry to FLYWHEEL. -/
def Tracker.forced (g : GroupFields) (n : Grp) (i : Nat) (x : Tracker) : Decision :=
  let y :=
    (({ x.place i x.expected .forced with
        state := .flywheel
        residue := 0
        flywheelCount := 1
        accepted := 0
        flywheelEntries := bump x.flywheelEntries } : Tracker).limits g).schedule
  let (z, more) := y.judgeLimit g n i
  ⟨z, some (announcement i x.expected .forced false x z), trackerNotice n x.state .window i y :: more⟩

/-- R77: a WHEEL boundary. -/
def Tracker.wheel (g : GroupFields) (n : Grp) (i : Nat) (x : Tracker) : Decision :=
  let y :=
    (({ x.place i x.expected .wheel with
        accepted := 0
        flywheelCount := min (x.flywheelCount + 1) 255 } : Tracker).limits g).schedule
  let (z, more) := y.judgeLimit g n i
  ⟨z, some (announcement i x.expected .wheel false x z), more⟩

/-! ## The decision at one tick (R68) -/

/-- R73, R77: the decision tick has reached the offset of the next timed length. -/
def Tracker.timedReached (i : Nat) (x : Tracker) : Bool := decide (x.nextLength ≤ x.offset i)

/-- R68, R73 to R78: the decision at tick `i` with the crossing whose instant is there, if any. A timed kind of boundary is
only marked as due. -/
def Tracker.decideAt (g : GroupFields) (n : Grp) (i : Nat) (crossing : Option Edge) (x : Tracker) : Decision :=
  if x.last.isNone then x.origin g i
  else
    match x.state with
    | .lost | .acquiring =>
      match crossing.bind fun e => (x.locks i).map fun l => (e, l) with
      | some (e, l) => x.lock g n i e l
      | none =>
        let y := if crossing.isSome then x.acquire i else x
        if y.timedReached i then ⟨{ y with due := some .timed }, none, []⟩ else ⟨y, none, []⟩
    | .locked =>
      match crossing.filter (x.inWindow i) with
      | some e => x.accept g i e
      | none => if x.limit ≤ x.offset i then ⟨{ x with due := some .forced }, none, []⟩ else ⟨x, none, []⟩
    | .flywheel =>
      match crossing.filter (x.inWindow i) with
      | some e => x.wheelCrossing g n i e
      | none => if x.timedReached i then ⟨{ x with due := some .wheel }, none, []⟩ else ⟨x, none, []⟩

/-- R68: the tracker at the close of tick `t`: it reads the reference, confirms any crossing and decides tick t − D. -/
def Tracker.close (g : GroupFields) (n : Grp) (t : Nat) (r : Int) (x : Tracker) : Decision :=
  let (y, crossing) := x.sense (debounce g.d) t r
  if lag g < t then y.decideAt g n (t - lag g) (crossing.map Prod.snd) else ⟨y, none, []⟩

/-- The timed boundary that is due is placed at tick `i`. -/
def Tracker.placeDue (g : GroupFields) (n : Grp) (i : Nat) (kind : DueKind) (x : Tracker) : Decision :=
  let x := { x with due := none }
  match kind with
  | .timed => x.timed g i
  | .forced => x.forced g n i
  | .wheel => x.wheel g n i

/-- R72: a set group's tracker at an accepted OPEN-SURVEY. The next length is computed from the origin. -/
def Tracker.opened (g : GroupFields) (x : Tracker) : Tracker :=
  { x with
    state := .lost
    period := nominalPeriod g.nominal
    history := []
    intervals := []
    anchor := none
    settled := none
    run := 0
    last := none
    before := none
    residue := 0
    accepted := 0
    flywheelCount := 0
    due := none }

end Sys2Proof.Machine
end

