-- ==== Sys2Proof/Machine/Events.lean ====
section
/-! DEFINITION. Sag Capture (05): samples, residuals, conditions, the group event machine, captures and the page pool, the
sag list, the emission of sag records, and the directives LOAD-PROFILE and READ-SAG. -/

namespace Sys2Proof.Machine

/-! ## LOAD-PROFILE (R84, R85) -/

def loadProfile (index : Nat) (fields : Option ProfileFields) (s : State) : Answer :=
  match loadChecks 8 s.surveyLock index fields profileRanges profileCross with
  | .refused r data => refuse r data s
  | .taken i f => accept (s.mapEvents fun x => { x with profiles := x.profiles.set i f }) (u8 (ordinal i))

def execLoadProfile (tag : Byte) (index : Nat) (fields : Option ProfileFields) (s : State) : StepResult :=
  handle tag (.loadProfile index fields) (loadProfile index fields) s

/-! ## Members -/

/-- A VOLTAGE member of a group: its place in the member list, its channel number and its nominal code. -/
structure VoltageMember where
  place : Nat
  channel : Nat
  nom : Nat
  deriving DecidableEq, Repr

/-- The VOLTAGE members of a group, in member order. -/
def Survey.voltageMembers (x : Survey) (g : GroupFields) : List VoltageMember :=
  g.members.zipIdx.filterMap fun (c, i) =>
    match x.channel c with
    | some m => if m.kind = .voltage then some ⟨i, c, m.nom⟩ else none
    | none => none

/-- R84: the profile of a group. -/
def Events.profileOf (x : Events) (g : GroupFields) : Option ProfileFields :=
  (ofNumber 8 g.profile).bind x.profiles.get

/-! ## Taking the samples (R86) -/

/-- A sample that no delay line holds. -/
def noSample : Sample := ⟨0, true, false⟩

/-- The square of a sample. -/
def square (v : Int) : Nat := (v * v).toNat

/-- R86: one sample of a voltage member taken into the half-cycle in progress. -/
def MemberState.take (w : Sample) (m : MemberState) : MemberState :=
  { m with
    sum := m.sum + square w.value
    gaps := m.gaps + w.gap.toNat
    clip := m.clip || w.clip }

/-- R86: one row of all members taken into the half-cycle in progress. -/
def GroupEvents.takeRow (vm : List VoltageMember) (row : List Sample) (x : GroupEvents) : GroupEvents :=
  { x with
    members := (x.members.zip vm).map fun (m, v) => m.take (nth noSample row v.place)
    buffer := x.buffer ++ [row.map fun w => w.value] }

/-- R86: the latches of the tick enter the delay line, which holds D + 1 ticks. -/
def pushDelay (d : Nat) (row : List Sample) (delay : List (List Sample)) : List (List Sample) :=
  takeLast (d + 1) (delay ++ [row])

/-- R86: the sample of tick t − D, once the line holds it. -/
def delayed (d : Nat) (delay : List (List Sample)) : Option (List Sample) :=
  if delay.length = d + 1 then delay.head? else none

/-! ## The residual and the condition (R87 to R89) -/

/-- R87: the residual U of `n` samples with the sum of squares `sum`. -/
def residual (sum n nom : Nat) : Nat := min 65535 (isqrt (sum / n) * 10000 / nom)

/-- R88: the half-cycle is withheld from the member. -/
def withheld (b : Boundary) (n gaps : Nat) : Bool := b.flags.short || decide (n / 4 < gaps)

/-- R89: the first row of the table that applies. -/
def nextCondition (p : ProfileFields) (c : Condition) (u : Nat) : Condition :=
  if u < p.intEnter then .interruption
  else if c = .interruption ∧ u < p.intExit then .interruption
  else if u < p.sagEnter then .sag
  else if (c = .sag ∨ c = .interruption) ∧ u < p.sagExit then .sag
  else if p.swellEnter < u then .swell
  else if c = .swell ∧ p.swellExit < u then .swell
  else .normal

/-- R88, R89: what a boundary does to one voltage member. `u` is absent when the half-cycle is withheld. -/
structure Evaluation where
  channel : Nat
  before : Condition
  after : Condition
  u : Option Nat
  clipped : Bool
  deriving DecidableEq, Repr

/-- R87 to R89: one member's half-cycle of `n` samples judged. -/
def evaluate (p : ProfileFields) (b : Boundary) (n : Nat) (v : VoltageMember) (m : MemberState) : Evaluation :=
  if withheld b n m.gaps then ⟨v.channel, m.condition, m.condition, none, false⟩
  else
    let u := residual m.sum n v.nom
    ⟨v.channel, m.condition, nextCondition p m.condition u, some u, m.clip⟩

/-- R89: the member leaves NORMAL. -/
def Evaluation.leavesNormal (e : Evaluation) : Bool := decide (e.before = .normal) && decide (e.after ≠ .normal)

/-- R88: the boundary is evaluated for the group. -/
def evaluatedAny (es : List Evaluation) : Bool := es.any fun e => e.u.isSome

/-- Every voltage member's condition is NORMAL after the boundary. -/
def allNormal (es : List Evaluation) : Bool := es.all fun e => decide (e.after = .normal)

/-! ## The page pool and the list (R106 to R109) -/

/-- R108: an eviction candidate. -/
def SagEntry.candidate (e : SagEntry) : Bool := e.status.isSent && decide (e.pins = 0) && decide (e.keeps = 0)

/-- R108: the candidate with the lowest sag number is evicted and its pages freed. -/
def Events.evict (x : Events) : Option Events :=
  (x.sags.find? SagEntry.candidate).map fun e =>
    { x with
      sags := x.sags.filter fun k => decide (k.number ≠ e.number)
      freePages := x.freePages ++ e.pages }

/-- R106: a page is taken, evicting candidates while none is free (entry 17). The evictions made stand, whether or not they
free a page. -/
def Events.takePage : Nat → Events → Option Nat × Events
  | fuel, x =>
    match x.freePages with
    | p :: rest => (some p, { x with freePages := rest })
    | [] =>
      match fuel, x.evict with
      | fuel + 1, some y => Events.takePage fuel y
      | _, _ => (none, x)

/-- R106: how far a capture has come while rows are written: rows stored, pages held, stopped for good. -/
structure Writing where
  rows : Nat
  pages : List Nat
  stopped : Bool
  deriving DecidableEq, Repr

/-- R106: one row of `m` words is stored, taking a page when it needs a word beyond those held, or the capture stops. -/
def writeRow (m : Nat) (wx : Writing × Events) : Writing × Events :=
  let (w, x) := wx
  if w.stopped then (w, x)
  else if (w.rows + 1) * m ≤ w.pages.length * Config.pageWords then ({ w with rows := w.rows + 1 }, x)
  else
    match x.takePage x.sags.length with
    | (some p, x) => (⟨w.rows + 1, w.pages ++ [p], false⟩, x)
    | (none, x) => ({ w with stopped := true }, x)

/-- R106: rows written into a capture; the answer counts those stored. -/
def Capture.write (rows : List (List Int)) (m : Nat) (c : Capture) (x : Events) : Capture × Nat × Events :=
  let (w, x) := rows.foldl (fun wx _ => writeRow m wx) (⟨c.rows.length, c.pages, c.stopped⟩, x)
  let stored := w.rows - c.rows.length
  ({ c with rows := c.rows ++ rows.take stored, pages := w.pages, stopped := w.stopped }, stored, x)

/-- R106: a capture that stopped while rows were written gains TRUNCATED. -/
def markTruncated (e : Event) : Event :=
  if e.capture.stopped then { e with flags := { e.flags with truncated := true } } else e

/-- R105: the pre window. -/
def Event.writePre (rows : List (List Int)) (m : Nat) (e : Event) (x : Events) : Event × Events :=
  let (c, k, x) := e.capture.write rows m x
  (markTruncated { e with capture := { c with pre := c.pre + k } }, x)

/-- R105: one body half-cycle. Beyond body-cycles × 2 it is not stored, and a capture not yet stopped gains BODY_CUT
(entry 18). -/
def Event.writeBody (limit : Nat) (rows : List (List Int)) (m : Nat) (e : Event) (x : Events) : Event × Events :=
  if e.recorded then
    if e.capture.bodyHalves < limit then
      let (c, k, x) := e.capture.write rows m x
      (markTruncated { e with capture := { c with body := c.body + k, bodyHalves := c.bodyHalves + 1 } }, x)
    else if e.capture.stopped then (e, x)
    else ({ e with flags := { e.flags with bodyCut := true } }, x)
  else (e, x)

/-- R105: one post half-cycle. -/
def Event.writePost (rows : List (List Int)) (m : Nat) (e : Event) (x : Events) : Event × Events :=
  if e.recorded then
    let (c, k, x) := e.capture.write rows m x
    (markTruncated { e with capture := { c with post := c.post + k } }, x)
  else (e, x)

/-- R109: an event of a number claims an entry, which becomes OPEN. -/
def Events.claim (n : Nat) (x : Events) : Option Events :=
  let add (x : Events) : Events := { x with sags := x.sags ++ [⟨n, .opened, [], [], 0, 0⟩] }
  if x.sags.length < Config.sagEntries then some (add x) else x.evict.map add

/-! ## The event in progress (R91 to R93, R99) -/

/-- R93: the stored extremes of a member with a new U. -/
def widen (old : Option (Nat × Nat)) (u : Option Nat) : Option (Nat × Nat) :=
  match old, u with
  | some (lo, hi), some u => some (min lo u, max hi u)
  | none, some u => some (u, u)
  | old, none => old

/-- R93: the update of the event at one boundary, the half-cycle count left alone. -/
def Event.update (es : List Evaluation) (flags : HalfFlags) (e : Event) : Event :=
  { e with
    extremes := (e.extremes.zip es).map fun (old, k) => widen old k.u
    involved :=
      es.foldl (fun l k => if k.u.isSome = true ∧ k.after ≠ .normal then insertRising k.channel l else l) e.involved
    allInterruption := e.allInterruption || es.all fun k => decide (k.after = .interruption)
    sagMark := e.sagMark || es.any fun k => decide (k.after = .sag) || decide (k.after = .interruption)
    swellMark := e.swellMark || es.any fun k => decide (k.after = .swell)
    flags :=
      { e.flags with
        gap := e.flags.gap || es.any fun k => k.u.isNone
        clipped := e.flags.clipped || es.any fun k => k.clipped
        nominal := e.flags.nominal || flags.nominal
        flywheel := e.flags.flywheel || flags.flywheel } }

/-- R99: the record of a retained entry changed. -/
def SagStatus.mapRecord (f : SagRecord → SagRecord) : SagStatus → SagStatus
  | .opened => .opened
  | .unsent again r => .unsent again (f r)
  | .sent r => .sent (f r)

/-- R99: the previous event becomes the first of a burst; its retained record gains the burst fields. -/
def Events.markFirst (n : Nat) (x : Events) : Events :=
  { x with sags := x.sags.map fun e =>
      if e.number = n then { e with status := e.status.mapRecord fun r => { r with burst := some (n, 1) } } else e }

/-- R99: the burst judged for a new event starting at `start`: the burst state, the event's burst fields, and the number
of the previous event when it becomes the first. An unnumbered previous event starts no burst (entry 19). A start during POST is
judged by the window as any other, though R99 ends by saying that it always joins (DESIGN CHOICE, unsafe, entry 72). -/
def judgeBurst (window start : Nat) (b : Burst) : Burst × Option (Nat × Nat) × Option Nat :=
  let joins := decide (window ≠ 0) && b.lastStop.any fun e => decide (start - e ≤ window)
  if joins then
    match b.id, b.lastNumber with
    | some id, _ =>
      let k := min (b.position + 1) 255
      ({ b with position := k }, some (id, k), none)
    | none, some n => ({ b with id := some n, position := 2 }, some (n, 2), some n)
    | none, none => (b, none, none)
  else ({ b with id := none, position := 0 }, none, none)

/-- R91, R92: the number of a new event, and whether an entry was claimed. -/
def Events.openEvent (x : Events) : Events × Option Nat × Bool :=
  let unrecorded (x : Events) : Events := { x with unrecorded := bump x.unrecorded }
  if x.lastSag < Config.numberLimit then
    let n := x.lastSag + 1
    let x := { x with lastSag := n }
    match x.claim n with
    | some x => (x, some n, true)
    | none => (unrecorded x, some n, false)
  else (unrecorded x, none, false)

/-- R91: an event that has gathered nothing yet. -/
def Event.fresh (number : Option Nat) (recorded : Bool) (start members : Nat) (burst : Option (Nat × Nat)) : Event where
  number := number
  recorded := recorded
  start := start
  stop := none
  halves := 1
  extremes := List.replicate members none
  involved := []
  allInterruption := false
  sagMark := false
  swellMark := false
  flags := noEventFlags
  capture := ⟨[], 0, 0, 0, 0, [], false⟩
  burst := burst
  postLeft := 0

/-- What a boundary's work on one group reads: its profile, members and evaluations, the boundary and the half-cycle's
length. -/
structure BoundaryWork where
  profile : ProfileFields
  words : Nat
  evaluations : List Evaluation
  boundary : Boundary
  n : Nat
  deriving DecidableEq, Repr

/-- The Event Detector with one group in hand. -/
abbrev GroupWork := GroupEvents × Events

/-- R105: the rows of the pre window. -/
def GroupEvents.preRows (x : GroupEvents) : List (List Int) := takeLast x.ringLengths.sum x.ring

/-- R91: an event starts at a boundary, with the half-cycle just evaluated as its first. -/
def startEvent (w : BoundaryWork) (gx : GroupWork) : GroupWork :=
  let (g, x) := gx
  let start := w.boundary.tick - w.n
  let (x, number, recorded) := x.openEvent
  let (burst, fields, first) := judgeBurst (msTicks w.profile.burstMs) start g.burst
  let e := Event.fresh number recorded start w.evaluations.length fields
  let (e, x) := if recorded then e.writePre g.preRows w.words x else (e, x)
  let (e, x) := e.writeBody (w.profile.body * 2) g.buffer w.words x
  let x := match first with | some n => x.markFirst n | none => x
  ({ g with
     machine := .active
     event := some (e.update w.evaluations w.boundary.flags)
     burst := { burst with lastNumber := number }
     span := { g.span with start := some start } },
   x)

/-! ## Completion (R101 to R103) -/

/-- R101: the member with the lowest value; of equal ones the lower channel. -/
def lowestBy (l : List (Nat × Nat)) : Option (Nat × Nat) :=
  l.foldl
    (fun best k =>
      match best with
      | none => some k
      | some b => if k.2 < b.2 ∨ (k.2 = b.2 ∧ k.1 < b.1) then some k else some b)
    none

/-- R101: the member with the highest value; of equal ones the lower channel. -/
def highestBy (l : List (Nat × Nat)) : Option (Nat × Nat) :=
  l.foldl
    (fun best k =>
      match best with
      | none => some k
      | some b => if b.2 < k.2 ∨ (k.2 = b.2 ∧ k.1 < b.1) then some k else some b)
    none

/-- R101: the kind of a record. -/
def Event.kind (e : Event) : SagKind :=
  if e.allInterruption then .interruption else if e.sagMark then .sag else .swell

/-- R101: the minima, or the maxima, of the members marked evaluated, with their channels, in member order. -/
def Event.extremesOf (pick : Nat × Nat → Nat) (vm : List VoltageMember) (e : Event) : List (Nat × Nat) :=
  (vm.zip e.extremes).filterMap fun (v, k) => k.map fun k => (v.channel, pick k)

/-- R105: the descriptor, absent when no row was stored. -/
def Capture.descriptor (members : List Nat) (c : Capture) : Option CaptureDescriptor :=
  if c.rows.isEmpty then none else some ⟨members, c.pre, c.body, c.post⟩

/-- R101 to R103: the record of an event that has ended, of a number. -/
def Event.record (n : Nat) (g : Grp) (members : List Nat) (vm : List VoltageMember) (e : Event) : SagRecord :=
  let minima := e.extremesOf Prod.fst vm
  let maxima := e.extremesOf Prod.snd vm
  let swell := decide (e.kind = .swell)
  let worst := ((if swell then highestBy maxima else lowestBy minima)).getD (0, 0)
  let also := !swell && e.swellMark
  let samples := e.stop.getD e.start - e.start
  { number := n
    group := ordinal g
    kind := e.kind
    start := e.start
    halves := e.halves
    ms := samples * 1000 / Config.ticksPerSecond
    residual := worst.2
    worst := worst.1
    involved := e.involved
    extremes := if swell then maxima else minima
    maximum := if also then (highestBy maxima).map Prod.snd else none
    burst := e.burst
    flags := { e.flags with swellAlso := also }
    capture := e.capture.descriptor members
    lostBefore := 0 }

/-- R96, R107: the entry of an event becomes UNSENT with its record and the pages and rows of its capture. -/
def Events.complete (r : SagRecord) (c : Capture) (x : Events) : Events :=
  { x with sags := x.sags.map fun e =>
      if e.number = r.number then { e with status := .unsent false r, pages := c.pages, rows := c.rows } else e }

/-- Which group a piece of work is on, for the record. -/
structure GroupId where
  grp : Grp
  members : List Nat
  voltage : List VoltageMember
  deriving DecidableEq, Repr

/-- R96: the record of the event in progress completes and the event becomes absent; the machine takes its next state. -/
def completeEvent (id : GroupId) (next : MachineState) (gx : GroupWork) : GroupWork :=
  let (g, x) := gx
  let x :=
    match g.event with
    | some e =>
      match e.recorded, e.number with
      | true, some n => x.complete (e.record n id.grp id.members id.voltage) e.capture
      | _, _ => x
    | none => x
  ({ g with event := none, machine := next }, x)

/-- The state after a completed event: LATCHED after a CUT one (R95, R96). -/
def afterEvent (e : Event) : MachineState := if e.flags.cut then .latched else .quiet

/-- R94, R95, R100: the event ends at a tick: its end tick, the span closed, the burst state's last end tick. -/
def closeSpan (stop : Nat) (x : SpanRecord) : SpanRecord :=
  match x.start with
  | some a => ⟨none, takeLast 4 (x.spans ++ [(a, stop)])⟩
  | none => x

def endEvent (cut : Bool) (stop : Nat) (e : Event) (g : GroupEvents) : GroupEvents :=
  { g with
    event := some { e with stop := some stop, flags := { e.flags with cut := cut } }
    span := closeSpan stop g.span
    burst := { g.burst with lastStop := some stop } }

/-- R94: the post window opens, or the record completes at once with post-cycles 0. -/
def openPost (id : GroupId) (post : Nat) (gx : GroupWork) : GroupWork :=
  match gx.1.event with
  | none => gx
  | some e =>
    if post = 0 then completeEvent id (afterEvent e) gx
    else ({ gx.1 with machine := .post, event := some { e with postLeft := post * 2 } }, gx.2)

/-! ## The machine at a boundary (R91 to R97) -/

/-- R93 to R95: a boundary in ACTIVE. The maximum length cuts the event at any boundary that reaches it, as R95 says, also at one
evaluated for no member, at which R88 lets the machine change no state and R94 ends no event, such as the end of a SHORT half-cycle,
which ends no event by R98 (DESIGN CHOICE, unsafe, entry 69). -/
def activeBoundary (id : GroupId) (w : BoundaryWork) (e : Event) (gx : GroupWork) : GroupWork :=
  let (g, x) := gx
  let (e, x) := e.writeBody (w.profile.body * 2) g.buffer w.words x
  let e := { e.update w.evaluations w.boundary.flags with halves := e.halves + 1 }
  let t := w.boundary.tick
  if evaluatedAny w.evaluations && allNormal w.evaluations then openPost id w.profile.post (endEvent false t e g, x)
  else if secondTicks w.profile.maxSeconds ≤ t - e.start then openPost id w.profile.post (endEvent true t e g, x)
  else ({ g with event := some e }, x)

/-- R96, R97: a boundary in POST. -/
def postBoundary (id : GroupId) (w : BoundaryWork) (e : Event) (gx : GroupWork) : GroupWork :=
  let (g, x) := gx
  if e.flags.cut = false ∧ w.evaluations.any Evaluation.leavesNormal = true then
    startEvent w
      (completeEvent id .quiet ({ g with event := some { e with flags := { e.flags with postShort := true } } }, x))
  else
    let (e, x) := e.writePost g.buffer w.words x
    let e := { e with postLeft := e.postLeft - 1 }
    let g := { g with event := some e }
    if e.postLeft = 0 then completeEvent id (afterEvent e) (g, x) else (g, x)

/-- R91 to R97: the machine at a boundary that ends a half-cycle. -/
def machineBoundary (id : GroupId) (w : BoundaryWork) (gx : GroupWork) : GroupWork :=
  match gx.1.machine, gx.1.event with
  | .quiet, _ => if w.evaluations.any Evaluation.leavesNormal then startEvent w gx else gx
  | .active, some e => activeBoundary id w e gx
  | .post, some e => postBoundary id w e gx
  | .latched, _ =>
    if evaluatedAny w.evaluations && allNormal w.evaluations then ({ gx.1 with machine := .quiet }, gx.2) else gx
  | .active, none | .post, none => gx

/-- R104: the half-cycle buffer moves into the history ring. -/
def GroupEvents.moveRing (pre n : Nat) (x : GroupEvents) : GroupEvents :=
  if pre = 0 then { x with buffer := [] }
  else
    { x with
      ring := takeLast (pre * 256) (x.ring ++ x.buffer)
      ringLengths := takeLast (pre * 2) (x.ringLengths ++ [n])
      buffer := [] }

/-- R87, R89: the members take their conditions and begin the next half-cycle. -/
def GroupEvents.settleMembers (es : List Evaluation) (x : GroupEvents) : GroupEvents :=
  { x with members := es.map fun e => ⟨0, 0, false, e.after⟩ }

/-- The work of one group put back. -/
def Events.putGroup (n : Grp) (gx : GroupWork) : Events := { gx.2 with groups := gx.2.groups.set n gx.1 }

/-- R86 step 1: the Event Detector acts on an announced boundary of a group. The origin ends no half-cycle. -/
def State.eventBoundary (n : Grp) (g : GroupFields) (b : Boundary) (s : State) : State :=
  match b.length, s.events.profileOf g with
  | some len, some p =>
    let vm := s.survey.voltageMembers g
    let x := s.events.groups.get n
    let es := (vm.zip x.members).map fun (v, m) => evaluate p b len v m
    let w : BoundaryWork := ⟨p, g.members.length, es, b, len⟩
    let (y, ev) := machineBoundary ⟨n, g.members, vm⟩ w (x.settleMembers es, s.events)
    { s with events := Events.putGroup n (y.moveRing p.pre len, ev) }
  | _, _ => s

/-- The row of the group's members at this tick, as routing delivers it (R19, R20). -/
def State.memberRow (g : GroupFields) (s : State) : List Sample := g.members.map s.ring.latchOf

/-- R86: the tick's samples enter the delay line. -/
def State.eventPush (n : Grp) (g : GroupFields) (s : State) : State :=
  s.mapEvents fun x =>
    { x with groups := x.groups.modify n fun k => { k with delay := pushDelay (lag g) (s.memberRow g) k.delay } }

/-- R86 step 2: the samples of tick t − D are taken, once the origin has been announced. -/
def State.eventSample (n : Grp) (g : GroupFields) (s : State) : State :=
  if (s.trackers.get n).last.isNone then s
  else
    match delayed (lag g) (s.events.groups.get n).delay with
    | none => s
    | some row =>
      s.mapEvents fun x =>
        { x with groups := x.groups.modify n (GroupEvents.takeRow (s.survey.voltageMembers g) row) }

/-! ## Close steps and RESTART (R112, R113) -/

/-- R112: the close steps of one group at the close tick. -/
def closeGroupEvents (id : GroupId) (stop : Nat) (gx : GroupWork) : GroupWork :=
  let (g, x) := gx
  let g := { g with delay := [] }
  match g.machine, g.event with
  | .active, some e =>
    let (g, x) := completeEvent id .latched (endEvent true stop e g, x)
    ({ g with buffer := [], members := g.members.map fun m => { m with sum := 0, gaps := 0, clip := false } }, x)
  | .post, some e => completeEvent id (afterEvent e) (g, x)
  | _, _ => (g, x)

/-- R112: the close steps of the Event Detector for one set group. -/
def State.closeEvents (n : Grp) (g : GroupFields) (s : State) : State :=
  let id : GroupId := ⟨n, g.members, s.survey.voltageMembers g⟩
  { s with events := Events.putGroup n (closeGroupEvents id s.survey.tick (s.events.groups.get n, s.events)) }

/-- R113: what RESTART does to one group: the event in progress is discarded, its entry and capture pages freed; the delay
line and the half-cycle buffer are emptied; the reservation is freed. The running sums, gap counts and clip marks of the voltage
members, which R113 does not list, return to 0 with the buffer (DESIGN CHOICE, unsafe, entry 58). -/
def discardGroup (gx : GroupWork) : GroupWork :=
  let (g, x) := gx
  let x :=
    match g.event with
    | some e =>
      { x with
        sags := x.sags.filter fun k => decide (e.number ≠ some k.number) || !(decide (k.status = SagStatus.opened))
        freePages := x.freePages ++ e.capture.pages }
    | none => x
  ({ g with
     event := none
     delay := []
     buffer := []
     members := g.members.map fun m => { m with sum := 0, gaps := 0, clip := false }
     ring := []
     ringLengths := []
     reserved := [] },
   { x with freePages := x.freePages ++ g.reserved })

/-- R113: RESTART in the Event Detector. -/
def Events.restart (x : Events) : Events :=
  (indexes 8).foldl (fun x n => Events.putGroup n (discardGroup (x.groups.get n, x))) x

/-! ## SAG_RECORD_EMIT (R110) -/

/-- R110: the capture frames of one member. -/
def SagEntry.framesPerMember (e : SagEntry) : Nat := ceilDiv e.rows.length Config.captureSamples

/-- R110: the members of an entry's capture. -/
def SagRecord.captured (r : SagRecord) : List Nat :=
  match r.capture with
  | some c => c.members
  | none => []

/-- R110, R111: the frames of a record: the record frame, then the capture frames of each member. -/
def SagEntry.frameCount (e : SagEntry) (r : SagRecord) : Nat := 1 + r.captured.length * e.framesPerMember

/-- R110: capture frame `k` of the series, counted from 0. -/
def SagEntry.captureFrame (e : SagEntry) (r : SagRecord) (k : Nat) : RecordFrame :=
  let f := e.framesPerMember
  let first := k % f * Config.captureSamples
  .capture e.number (nth 0 r.captured (k / f)) first
    (((e.rows.drop first).take Config.captureSamples).map fun row => nth 0 row (k / f))

/-- R110: the lost-before value of a record frame. -/
def SagRecord.stamp (again : Bool) (unrecorded : Nat) (r : SagRecord) : SagRecord :=
  if again then r else { r with lostBefore := unrecorded }

/-- The status of the entry of a number replaced. -/
def Events.setStatus (n : Nat) (st : SagStatus) (x : Events) : Events :=
  { x with sags := x.sags.map fun e => if e.number = n then { e with status := st } else e }

/-- R110: the UNSENT entry with the lowest number. -/
def Events.lowestUnsent (x : Events) : Option Nat :=
  (x.sags.find? fun e => match e.status with | .unsent _ _ => true | _ => false).map fun e => e.number

/-- R110: the emission in progress, or the one that begins now. The lowest UNSENT entry is chosen when SAG_RECORD_EMIT is
taken (entry 44). -/
def Events.emitting (x : Events) : Option Emission :=
  match x.emission with
  | some m => some m
  | none => x.lowestUnsent.map fun n => ⟨n, 0⟩

/-- R110: frame `k` of the entry being emitted is accepted by the record queue. -/
def State.emitSag (e : SagEntry) (again : Bool) (r : SagRecord) (k : Nat) (s : State) : State :=
  let stamped := if k = 0 then r.stamp again s.events.unrecorded else r
  let frame := if k = 0 then RecordFrame.sag stamped again else e.captureFrame r (k - 1)
  let done := decide (e.frameCount r ≤ k + 1)
  let s := s.mapLink (Link.accept [frame])
  let s := s.mapEvents fun x =>
    let x := x.setStatus e.number (if done then .sent stamped else .unsent again stamped)
    { x with
      unrecorded := if k = 0 ∧ again = false then 0 else x.unrecorded
      emission := if done then none else some ⟨e.number, k + 1⟩ }
  if done then s.testDrained else s

/-- SAG_RECORD_EMIT: the next frame of the entry being emitted is offered when the record queue has room. -/
def execSagRecordEmit (s : State) : StepResult :=
  match s.events.emitting with
  | none => .next s
  | some m =>
    let s := s.mapEvents fun x => { x with emission := some m }
    match s.events.sags.find? fun e => decide (e.number = m.number) with
    | none => .next s
    | some e =>
      match e.status with
      | .unsent again r => .next (if 0 < s.link.recordRoom then s.emitSag e again r m.frame else s)
      | _ => .next s

/-! ## READ-SAG (R111) -/

def readSag (n : Nat) (s : State) : Answer :=
  if n = 0 then refuse .badValue [] s
  else
    match s.events.retained n with
    | none => refuse .unknownItem [] s
    | some e =>
      match e.status with
      | .sent r => accept (s.mapEvents (Events.setStatus n (.unsent true r))) (u32 n ++ u16 (e.frameCount r))
      | _ => refuse .badState [] s

def execReadSag (tag : Byte) (n : Nat) (s : State) : StepResult := handle tag (.readSag n) (readSag n) s

end Sys2Proof.Machine
end

