-- ==== Sys2Proof/Machine/Harmonics.lean ====
section
/-! DEFINITION. Harmonic Records (06): the tables and amplitudes of a cycle, settlement, blocks, intervals and summaries, the
interval list, the emission of interval records, and the directives LOAD-BINS and CLEAR-PEAKS. -/

namespace Sys2Proof.Machine

/-! ## LOAD-BINS (R114, R115) -/

def loadBins (index : Nat) (fields : Option BinFields) (s : State) : Answer :=
  match loadChecks 4 s.surveyLock index fields binRanges binCross with
  | .refused r data => refuse r data s
  | .taken i f => accept (s.mapHarmonics fun x => { x with binSets := x.binSets.set i f }) (u8 (ordinal i))

def execLoadBins (tag : Byte) (index : Nat) (fields : Option BinFields) (s : State) : StepResult :=
  handle tag (.loadBins index fields) (loadBins index fields) s

/-! ## What is analysed (R116) -/

/-- R116: the bin set a group names. -/
def Harmonics.binsOf (x : Harmonics) (g : GroupFields) : Option BinFields :=
  g.bins.bind fun b => (ofNumber 4 b).bind x.binSets.get

/-- R116: the analysed members of a group, as channel numbers in member order. -/
def Survey.analysed (x : Survey) (g : GroupFields) : List Nat :=
  g.members.filter fun c => (x.channel c).any fun m => m.harmonic

/-- R116: the bin set of a group analysed for harmonics. -/
def State.analysedBins (g : GroupFields) (s : State) : Option BinFields :=
  if (s.survey.analysed g).isEmpty then none else s.harmonics.binsOf g

/-- R116: an empty block accumulator for `m` members and `k` orders. -/
def emptyBlock (m k : Nat) : BlockSums := ⟨List.replicate m (List.replicate k 0), List.replicate m 0, 0, false⟩

/-- R116: an empty interval accumulator. -/
def emptyInterval (m k : Nat) : IntervalSums := ⟨List.replicate m (List.replicate k 0), 0, 0, 0, 0, none⟩

/-- R128: an empty summary cell. -/
def emptyCell : SummaryCell := ⟨0, none, none, 0⟩

/-- R116: the state of an analysed group at OPEN-SURVEY. -/
def GroupHarmonics.opened (members orders : List Nat) : GroupHarmonics :=
  let m := members.length
  let k := orders.length + 1
  { GroupHarmonics.reset with
    block := emptyBlock m k
    interval := emptyInterval m k
    summary := ⟨members, orders, List.replicate m (List.replicate k emptyCell)⟩ }

/-- One group's harmonic state changed. -/
def Harmonics.mapGroup (n : Grp) (f : GroupHarmonics → GroupHarmonics) (x : Harmonics) : Harmonics :=
  { x with groups := x.groups.modify n f }

/-! ## The tables (R120) -/

/-- R120: C at places 0 to 256, the first quarter of the cosine. -/
def quarterWave : List Int :=
  [32767, 32766, 32765, 32761, 32757, 32752, 32745, 32737, 32728, 32717, 32705, 32692, 32678, 32663, 32646, 32628,
   32609, 32589, 32567, 32545, 32521, 32495, 32469, 32441, 32412, 32382, 32351, 32318, 32285, 32250, 32213, 32176] ++
  [32137, 32098, 32057, 32014, 31971, 31926, 31880, 31833, 31785, 31736, 31685, 31633, 31580, 31526, 31470, 31414,
   31356, 31297, 31237, 31176, 31113, 31050, 30985, 30919, 30852, 30783, 30714, 30643, 30571, 30498, 30424, 30349] ++
  [30273, 30195, 30117, 30037, 29956, 29874, 29791, 29706, 29621, 29534, 29447, 29358, 29268, 29177, 29085, 28992,
   28898, 28803, 28706, 28609, 28510, 28411, 28310, 28208, 28105, 28001, 27896, 27790, 27683, 27575, 27466, 27356] ++
  [27245, 27133, 27019, 26905, 26790, 26674, 26556, 26438, 26319, 26198, 26077, 25955, 25832, 25708, 25582, 25456,
   25329, 25201, 25072, 24942, 24811, 24680, 24547, 24413, 24279, 24143, 24007, 23870, 23731, 23592, 23452, 23311] ++
  [23170, 23027, 22884, 22739, 22594, 22448, 22301, 22154, 22005, 21856, 21705, 21554, 21403, 21250, 21096, 20942,
   20787, 20631, 20475, 20317, 20159, 20000, 19841, 19680, 19519, 19357, 19195, 19032, 18868, 18703, 18537, 18371] ++
  [18204, 18037, 17869, 17700, 17530, 17360, 17189, 17018, 16846, 16673, 16499, 16325, 16151, 15976, 15800, 15623,
   15446, 15269, 15090, 14912, 14732, 14553, 14372, 14191, 14010, 13828, 13645, 13462, 13279, 13094, 12910, 12725] ++
  [12539, 12353, 12167, 11980, 11793, 11605, 11417, 11228, 11039, 10849, 10659, 10469, 10278, 10087, 9896, 9704,
   9512, 9319, 9126, 8933, 8739, 8545, 8351, 8157, 7962, 7767, 7571, 7375, 7179, 6983, 6786, 6590] ++
  [6393, 6195, 5998, 5800, 5602, 5404, 5205, 5007, 4808, 4609, 4410, 4210, 4011, 3811, 3612, 3412,
   3212, 3012, 2811, 2611, 2410, 2210, 2009, 1809, 1608, 1407, 1206, 1005, 804, 603, 402, 201] ++
  [0]

/-- R120: C at place `p` of 1,024, by the symmetry of the cosine. -/
def cosine (p : Nat) : Int :=
  if p ≤ 256 then nth 0 quarterWave p
  else if p ≤ 512 then -nth 0 quarterWave (512 - p)
  else if p ≤ 768 then -nth 0 quarterWave (p - 512)
  else nth 0 quarterWave (1024 - p)

/-- R120: S at place `p`: the cosine a quarter turn back. -/
def sine (p : Nat) : Int := cosine ((p + 768) % 1024)

/-! ## Amplitudes (R120, R121) -/

/-- R120: the table place of sample `k` of `n` for order `h`. -/
def tablePlace (n h k : Nat) : Nat := k * h * 1024 / n % 1024

/-- R120: the sum of the samples against a table. -/
def tableSum (table : Nat → Int) (n h : Nat) (xs : List Int) : Int :=
  (xs.zipIdx.map fun (x, k) => x * table (tablePlace n h k)).sum

/-- R121: the amplitude of order `h`, in H16, from the two sums. -/
def h16 (n : Nat) (re im : Int) : Nat :=
  let a := Int.tdiv re (n * 1024 : Nat)
  let b := Int.tdiv im (n * 1024 : Nat)
  min 1048575 (isqrt (square a + square b))

/-- R120, R121: the amplitude of order `h` over the samples of a cycle. -/
def amplitude (xs : List Int) (h : Nat) : Nat :=
  h16 xs.length (tableSum cosine xs.length h xs) (tableSum sine xs.length h xs)

/-- R119: the conditions of a valid cycle that are the same for every member. -/
def halvesValid (a b : HalfFlags) : Bool :=
  a.tracked && b.tracked && !a.resync && !b.resync && !a.short && !b.short

/-- R119: no sample of the series carries a mark. -/
def seriesClean (xs : List Sample) : Bool := xs.all fun w => !w.gap && !w.clip

/-- R118, R119: the amplitudes of each of `m` members, where the cycle is valid for it. -/
def cycleAmplitudes (m : Nat) (orders : List Nat) (valid : Bool) (buffer : List (List Sample)) :
    List (Option (List Nat)) :=
  (List.range m).map fun i =>
    let xs := buffer.map fun row => nth noSample row i
    if valid && seriesClean xs then some ((1 :: orders).map (amplitude (xs.map fun w => w.value))) else none

/-! ## Taking the samples and closing a cycle (R117, R118) -/

/-- R117: one row into the cycle buffer, which holds 256 samples. -/
def GroupHarmonics.takeRow (row : List Sample) (x : GroupHarmonics) : GroupHarmonics :=
  if x.buffer.length < 256 then { x with buffer := x.buffer ++ [row] } else { x with overlong := true }

/-- R118: the buffer and the kept flags start afresh. -/
def GroupHarmonics.startBuffer (x : GroupHarmonics) : GroupHarmonics :=
  { x with buffer := [], overlong := false, halves := [] }

/-- R118: the cycle that began at `start` closes at a rising boundary. -/
def GroupHarmonics.closeCycle (m : Nat) (orders : List Nat) (start : Nat) (b : Boundary) (x : GroupHarmonics) :
    GroupHarmonics :=
  let valid :=
    x.halves.getLast?.any (fun a => halvesValid a b.flags) && !x.overlong && decide (b.tick - start ≤ 256)
  { x with pending := some ⟨start, b.tick, cycleAmplitudes m orders valid x.buffer⟩ }

/-- R118: the boundary acted on by its sign, the pending cycle being settled. -/
def GroupHarmonics.boundary (m : Nat) (orders : List Nat) (b : Boundary) (x : GroupHarmonics) : GroupHarmonics :=
  match b.edge, b.cycleStart with
  | .falling, _ => { x with halves := takeLast 2 (x.halves ++ [b.flags]) }
  | .rising, some start => (x.closeCycle m orders start b).startBuffer
  | .rising, none => x.startBuffer

/-! ## Settling and blocks (R122, R123) -/

/-- R122: some ACTIVE span of the group overlaps the cycle. -/
def SpanRecord.touches (c : PendingCycle) (x : SpanRecord) : Bool :=
  x.start.any (fun a => decide (a < c.stop)) ||
  x.spans.any fun k => decide (k.1 < c.stop) && decide (c.start < k.2)

/-- R123: a member's squares added to its sums, where the cycle is valid for it. -/
def addSquares (sums : List Nat) : Option (List Nat) → List Nat
  | none => sums
  | some l => (sums.zip l).map fun (a, h) => a + h * h

/-- R123: a settled cycle in the block accumulator. -/
def BlockSums.add (c : PendingCycle) (touched : Bool) (x : BlockSums) : BlockSums where
  sums := (x.sums.zip c.amplitudes).map fun (a, l) => addSquares a l
  valid := (x.valid.zip c.amplitudes).map fun (v, l) => v + l.isSome.toNat
  cycles := x.cycles + 1
  event := x.event || touched

/-- R123: every analysed member has at least ceil(B / 2) valid cycles. -/
def BlockSums.isValid (b : Nat) (x : BlockSums) : Bool := x.valid.all fun v => decide (ceilDiv b 2 ≤ v)

/-- R123: the block value of a sum and its count. -/
def rms (sum v : Nat) : Nat := isqrt (sum / v)

/-- R123: a used block's squared values added to the interval. -/
def addBlock (b : BlockSums) (sums : List (List Nat)) : List (List Nat) :=
  (sums.zip (b.sums.zip b.valid)).map fun (a, k, v) => (a.zip k).map fun (t, x) => t + rms x v * rms x v

/-- R123: a complete block classified into the interval. -/
def IntervalSums.take (length : Nat) (b : BlockSums) (x : IntervalSums) : IntervalSums :=
  let x := { x with total := x.total + 1 }
  if b.event then { x with flagged := x.flagged + 1 }
  else if b.isValid length then { x with used := x.used + 1, sums := addBlock b x.sums }
  else { x with invalid := x.invalid + 1 }

/-- R123: a settled cycle added to the group. -/
def GroupHarmonics.addCycle (bins : BinFields) (c : PendingCycle) (touched : Bool) (x : GroupHarmonics) :
    GroupHarmonics :=
  let block := x.block.add c touched
  let interval := { x.interval with start := x.interval.start.or (some c.start) }
  if bins.blockLength ≤ block.cycles then
    { x with
      pending := none
      block := emptyBlock block.valid.length (bins.orders.length + 1)
      interval := interval.take bins.blockLength block }
  else { x with pending := none, block := block, interval := interval }

/-! ## Intervals (R124 to R128) -/

/-- R125: the ratios and the THD of a member are absent. -/
def ratiosAbsent (minFund v1 : Nat) : Bool := decide (v1 = 0) || decide (v1 < 16 * minFund)

/-- R125: a ratio in bp. -/
def ratioOf (v v1 : Nat) : Nat := sat16 (v * 10000 / v1)

/-- R125, R126: the section of a member with its interval values, order 1 first. -/
def sectionOf (bins : BinFields) (channel : Nat) (values : List Nat) : ChannelSection :=
  let v1 := nth 0 values 0
  let listed := values.drop 1
  let absent := ratiosAbsent bins.minFund v1
  let ratio (v : Nat) : Option Nat := if absent then none else some (ratioOf v v1)
  { channel := channel
    fundamental := some v1
    orders := (bins.orders.zip listed).map fun (h, v) => ⟨h, v, ratio v⟩
    thd := if absent then none else some (ratioOf (isqrt (listed.map fun v => v * v).sum) v1)
    exceeded :=
      (bins.orders.zip (bins.limits.zip listed)).filterMap fun (h, limit, v) =>
        if limit ≠ 0 ∧ (ratio v).any (fun r => decide (limit < r)) = true then some h else none }

/-- R127: the section of a member of an EMPTY interval. -/
def emptySection (channel : Nat) : ChannelSection := ⟨channel, none, [], none, []⟩

/-- R124: the interval values of each member. -/
def IntervalSums.values (x : IntervalSums) : List (List Nat) := x.sums.map fun l => l.map fun t => rms t x.used

/-- R124 to R127: the record of an interval that closes, its number and lost-before aside. -/
def intervalRecord (n : Grp) (bins : BinFields) (members : List Nat) (stop period : Nat) (isPartial : Bool)
    (x : IntervalSums) : IntervalRecord :=
  let empty := decide (x.used = 0)
  let sections :=
    if empty then members.map emptySection
    else (members.zip x.values).map fun (c, v) => sectionOf bins c v
  { number := 0
    group := ordinal n
    start := x.start.getD stop
    stop := stop
    total := x.total
    used := x.used
    flagged := x.flagged
    invalid := x.invalid
    frequency := frequency period
    isEmpty := empty
    isPartial := isPartial
    lowFund := !empty && sections.any fun k => k.thd.isNone
    sections := sections
    lostBefore := 0 }

/-- R128: one cell updated by an interval value. -/
def SummaryCell.update (v : Nat) (ratio : Option Nat) (exceeded : Bool) (x : SummaryCell) : SummaryCell where
  peak := max x.peak v
  minimum := some (match x.minimum with | some m => min m v | none => v)
  ratio := ratio
  exceedances := if exceeded then bump x.exceedances else x.exceedances

/-- R128: the cells of one member updated by its section: order 1, then the listed orders. -/
def updateCells (k : ChannelSection) (cells : List SummaryCell) : List SummaryCell :=
  let values := (k.fundamental.getD 0, none, false) ::
    k.orders.map fun o => (o.value, o.ratio, k.exceeded.contains o.order)
  (cells.zip values).map fun (c, v, r, e) => c.update v r e

/-- R128: a non-EMPTY interval updates the summary. -/
def GroupSummary.update (r : IntervalRecord) (x : GroupSummary) : GroupSummary :=
  if r.isEmpty then x else { x with cells := (x.cells.zip r.sections).map fun (c, k) => updateCells k c }

/-- R132: the frames of an interval record: up to four channel sections each. -/
def IntervalRecord.parts (r : IntervalRecord) : Nat := ceilDiv r.sections.length 4

def IntervalRecord.frame (r : IntervalRecord) (k : Nat) : RecordFrame :=
  .interval r (k + 1) r.parts ((r.sections.drop (4 * k)).take 4)

def IntervalRecord.frames (r : IntervalRecord) : List RecordFrame := (List.range r.parts).map r.frame

/-- R130: an eviction candidate. -/
def IntervalEntry.candidate (e : IntervalEntry) : Bool := e.sent && decide (e.pins = 0)

/-- R130, R131: an entry claimed: a free one, or that of the lowest-numbered candidate. -/
def Harmonics.claim (r : IntervalRecord) (x : Harmonics) : Option Harmonics :=
  let add (x : Harmonics) : Harmonics := { x with intervals := x.intervals ++ [⟨r, false, 0⟩] }
  if x.intervals.length < Config.intervalEntries then some (add x)
  else
    (x.intervals.find? IntervalEntry.candidate).map fun e =>
      add { x with intervals := x.intervals.filter fun k => decide (k.record.number ≠ e.record.number) }

/-- R131: a lost interval is counted. -/
def Harmonics.lose (x : Harmonics) : Harmonics := { x with lost := bump x.lost }

/-- R131: an interval that found no entry is offered directly, when the queue has room for all its frames. -/
def State.emitDirect (r : IntervalRecord) (s : State) : State :=
  let r := { r with lostBefore := s.harmonics.lost }
  if r.parts ≤ s.link.recordRoom then
    (s.mapLink (Link.accept r.frames)).mapHarmonics fun x => { x with lost := 0 }
  else s.mapHarmonics Harmonics.lose

/-- R127, R131: a closed interval takes its number and claims an entry, or is emitted directly, or is lost. -/
def State.issueInterval (r : IntervalRecord) (s : State) : State :=
  if s.harmonics.lastInterval < Config.numberLimit then
    let r := { r with number := s.harmonics.lastInterval + 1 }
    let s := s.mapHarmonics fun x => { x with lastInterval := x.lastInterval + 1 }
    match s.harmonics.claim r with
    | some x => { s with harmonics := x }
    | none => s.emitDirect r
  else s.mapHarmonics Harmonics.lose

/-- R124: the interval of a group closes. -/
def State.closeInterval (n : Grp) (g : GroupFields) (bins : BinFields) (stop period : Nat) (isPartial : Bool)
    (s : State) : State :=
  let x := s.harmonics.groups.get n
  let members := s.survey.analysed g
  let r := intervalRecord n bins members stop period isPartial x.interval
  (s.mapHarmonics (Harmonics.mapGroup n fun k =>
    { k with
      interval := emptyInterval members.length (bins.orders.length + 1)
      summary := k.summary.update r })).issueInterval r

/-- R122: the pending cycle is settled; a block it completes may close the interval. -/
def State.settleCycle (n : Grp) (g : GroupFields) (bins : BinFields) (period : Nat) (s : State) : State :=
  match (s.harmonics.groups.get n).pending with
  | none => s
  | some c =>
    let touched := (s.events.groups.get n).span.touches c
    let s := s.mapHarmonics (Harmonics.mapGroup n (GroupHarmonics.addCycle bins c touched))
    if 2 ^ bins.exponent ≤ (s.harmonics.groups.get n).interval.total then
      s.closeInterval n g bins c.stop period false
    else s

/-- R118: the Harmonic Analyser acts on an announced boundary of a group. -/
def State.harmonicBoundary (n : Grp) (g : GroupFields) (b : Boundary) (s : State) : State :=
  match s.analysedBins g with
  | none => s
  | some bins =>
    (s.settleCycle n g bins b.period).mapHarmonics
      (Harmonics.mapGroup n (GroupHarmonics.boundary (s.survey.analysed g).length bins.orders b))

/-- R117: the tick's samples enter the delay line. -/
def State.harmonicPush (n : Grp) (g : GroupFields) (s : State) : State :=
  match s.analysedBins g with
  | none => s
  | some _ =>
    s.mapHarmonics (Harmonics.mapGroup n fun k =>
      { k with delay := pushDelay (lag g) ((s.survey.analysed g).map s.ring.latchOf) k.delay })

/-- R117 step 2: the samples of tick t − D are taken, once the origin has been announced. -/
def State.harmonicSample (n : Grp) (g : GroupFields) (s : State) : State :=
  match s.analysedBins g with
  | none => s
  | some _ =>
    if (s.trackers.get n).last.isNone then s
    else
      match delayed (lag g) (s.harmonics.groups.get n).delay with
      | none => s
      | some row => s.mapHarmonics (Harmonics.mapGroup n (GroupHarmonics.takeRow row))

/-! ## Close steps and RESTART (R133, R134) -/

/-- R133: the close steps of one group. -/
def State.closeHarmonics (n : Grp) (g : GroupFields) (s : State) : State :=
  match s.analysedBins g with
  | none => s
  | some bins =>
    let period := (s.trackers.get n).period
    let s := s.mapHarmonics (Harmonics.mapGroup n fun k => { k.startBuffer with delay := [] })
    let s := s.settleCycle n g bins period
    let s := s.mapHarmonics (Harmonics.mapGroup n fun k =>
      { k with block := emptyBlock (s.survey.analysed g).length (bins.orders.length + 1) })
    if (s.harmonics.groups.get n).interval.start.isSome then
      s.closeInterval n g bins s.survey.tick period true
    else s

/-- Every sum of a list of lists back to 0. -/
def zeroSums (l : List (List Nat)) : List (List Nat) := l.map fun k => k.map fun _ => 0

/-- R134: what RESTART discards in one group. -/
def GroupHarmonics.discard (x : GroupHarmonics) : GroupHarmonics :=
  { x.startBuffer with
    delay := []
    pending := none
    block := ⟨zeroSums x.block.sums, x.block.valid.map fun _ => 0, 0, false⟩
    interval := ⟨zeroSums x.interval.sums, 0, 0, 0, 0, none⟩ }

/-- R134: RESTART in the Harmonic Analyser. -/
def Harmonics.restart (x : Harmonics) : Harmonics := { x with groups := x.groups.map GroupHarmonics.discard }

/-! ## INTERVAL_RECORD_EMIT (R132) -/

/-- R132: the UNSENT entry with the lowest number. -/
def Harmonics.lowestUnsent (x : Harmonics) : Option Nat :=
  (x.intervals.find? fun e => !e.sent).map fun e => e.record.number

/-- R132: the emission in progress, or the one that begins now. The lowest UNSENT entry is chosen when INTERVAL_RECORD_EMIT is
taken (entry 44). -/
def Harmonics.emitting (x : Harmonics) : Option Emission :=
  match x.emission with
  | some m => some m
  | none => x.lowestUnsent.map fun n => ⟨n, 0⟩

/-- The entry of a number changed. -/
def Harmonics.mapEntry (n : Nat) (f : IntervalEntry → IntervalEntry) (x : Harmonics) : Harmonics :=
  { x with intervals := x.intervals.map fun e => if e.record.number = n then f e else e }

/-- R131, R132: frame `k` of the entry being emitted is accepted by the record queue. -/
def State.emitInterval (e : IntervalEntry) (k : Nat) (s : State) : State :=
  let r := if k = 0 then { e.record with lostBefore := s.harmonics.lost } else e.record
  let done := decide (r.parts ≤ k + 1)
  let s := s.mapLink (Link.accept [r.frame k])
  let s := s.mapHarmonics fun x =>
    let x := x.mapEntry e.record.number fun e => { e with record := r, sent := done }
    { x with
      lost := if k = 0 then 0 else x.lost
      emission := if done then none else some ⟨e.record.number, k + 1⟩ }
  if done then s.testDrained else s

/-- INTERVAL_RECORD_EMIT: the next frame of the entry being emitted is offered when the record queue has room. -/
def execIntervalRecordEmit (s : State) : StepResult :=
  match s.harmonics.emitting with
  | none => .next s
  | some m =>
    let s := s.mapHarmonics fun x => { x with emission := some m }
    match s.harmonics.intervals.find? fun e => decide (e.record.number = m.number) with
    | none => .next s
    | some e => .next (if 0 < s.link.recordRoom then s.emitInterval e m.frame else s)

/-! ## CLEAR-PEAKS (R129) -/

/-- R129: a cell cleared; its last ratio stays. -/
def SummaryCell.clear (x : SummaryCell) : SummaryCell := { x with peak := 0, minimum := none, exceedances := 0 }

def clearPeaks (group : Nat) (s : State) : Answer :=
  match ofNumber 8 group with
  | none => refuse .badValue [] s
  | some n =>
    accept
      (s.mapHarmonics (Harmonics.mapGroup n fun k =>
        { k with summary := { k.summary with cells := k.summary.cells.map fun l => l.map SummaryCell.clear } }))
      (u8 group)

def execClearPeaks (tag : Byte) (group : Nat) (s : State) : StepResult :=
  handle tag (.clearPeaks group) (clearPeaks group) s

end Sys2Proof.Machine
end

