-- ==== Sys2Proof/Machine/Boundaries.lean ====
section
/-! DEFINITION. What a tracker's decision does to the group's consumers, and the boundaries placed by steps of their own:
TIMED_BOUNDARY, FORCED_BOUNDARY and WHEEL_BOUNDARY. -/

namespace Sys2Proof.Machine

/-- R68, R82: a decision takes effect: its notices are offered, and its boundary is announced to the Event Detector and the
Harmonic Analyser. -/
def State.takeDecision (n : Grp) (g : GroupFields) (d : Decision) (s : State) : State :=
  let s := s.mapTrackers fun x => x.set n d.tracker
  let s := d.notices.foldl (fun s b => s.offer b) s
  match d.boundary with
  | none => s
  | some b => (s.eventBoundary n g b).harmonicBoundary n g b

/-- R86, R117: the samples of tick t − D are taken, after any boundary of the close. -/
def State.takeSamples (n : Grp) (g : GroupFields) (s : State) : State := (s.eventSample n g).harmonicSample n g

/-! ## TIMED_BOUNDARY, FORCED_BOUNDARY, WHEEL_BOUNDARY (R73, R76, R77) -/

/-- A due boundary of one kind is placed and announced, and the group's samples are taken. -/
def State.placeBoundary (kind : DueKind) (n : Grp) (s : State) : State :=
  match s.survey.groups.get n with
  | none => s
  | some g =>
    if (s.trackers.get n).due = some kind then
      (s.takeDecision n g ((s.trackers.get n).placeDue g n (s.survey.tick - lag g) kind)).takeSamples n g
    else s

def execTimedBoundary (n : Grp) (s : State) : StepResult := .next (s.placeBoundary .timed n)

def execForcedBoundary (n : Grp) (s : State) : StepResult := .next (s.placeBoundary .forced n)

def execWheelBoundary (n : Grp) (s : State) : StepResult := .next (s.placeBoundary .wheel n)

/-! ## Boundaries already decided (R14, R83) -/

/-- The boundary due at a group, of whatever kind. -/
def State.flushGroup (s : State) (n : Grp) : State :=
  ((s.placeBoundary .timed n).placeBoundary .forced n).placeBoundary .wheel n

/-- R83: every boundary decided and not yet placed is announced in full, by rising group (entries 4, 8). -/
def State.placeBoundaries (s : State) : State := (indexes 8).foldl State.flushGroup s

end Sys2Proof.Machine
end

