-- ==== Sys2Proof/Machine/Survey.lean ====
section
/-! DEFINITION. Survey Runs and the Channel Map (01): the channel and group tables, READ-TABLE, OPEN-SURVEY and
CLOSE-SURVEY. -/

namespace Sys2Proof.Machine

/-! ## LOAD-CHANNEL and LOAD-GROUP (R1 to R5) -/

/-- R184: what a change of the RAW set from `old` does to the block in formation: the tick in progress is still taken with
the old set and then closes the block; when that tick has been taken already, the block closes now. -/
def State.rawChanged (old : List Nat) (s : State) : State :=
  if s.survey.rawSet = old then s
  else if s.ring.tickOpen then s.mapLink fun l => { l with rawHold := l.rawHold.or (some old) }
  else s.mapLink Link.closeBlock

/-- R2: the position of a channel. -/
def positionOf (c : Chan) : Pos := ⟨c.val / 4, by omega⟩

/-- R43: a reload that LOAD-CHANNEL hands over; without effect at a position that is not enabled. -/
def State.reloadIfEnabled (p : Pos) (s : State) : State := if s.pods.enabled p then (s.reload p).placeJoin else s

def loadChannel (index : Nat) (fields : Option ChannelFields) (s : State) : Answer :=
  match loadChecks 48 s.surveyLock index fields channelRanges channelCross with
  | .refused r data => refuse r data s
  | .taken c f =>
    let old := s.survey.rawSet
    let s := s.mapSurvey fun x => { x with channels := x.channels.set c (f.map channelEntry) }
    accept ((s.rawChanged old).reloadIfEnabled (positionOf c)) (u8 (ordinal c))

def execLoadChannel (tag : Byte) (index : Nat) (fields : Option ChannelFields) (s : State) : StepResult :=
  handle tag (.loadChannel index fields) (loadChannel index fields) s

def loadGroup (index : Nat) (fields : Option GroupFields) (s : State) : Answer :=
  match loadChecks 8 s.surveyLock index fields groupRanges groupCross with
  | .refused r data => refuse r data s
  | .taken g f => accept (s.mapSurvey fun x => { x with groups := x.groups.set g f }) (u8 (ordinal g))

def execLoadGroup (tag : Byte) (index : Nat) (fields : Option GroupFields) (s : State) : StepResult :=
  handle tag (.loadGroup index fields) (loadGroup index fields) s

/-! ## READ-TABLE (R7) -/

/-- R7: the result data of a table entry; none for an unknown table (refused with its place, R191) or an index out of
range. -/
def tableEntry (table index : Nat) (s : State) : Option (List Byte) :=
  match table with
  | 1 => (ofNumber 48 index).map fun i => entryBytes 1 index channelBytes (s.survey.channels.get i)
  | 2 => (ofNumber 8 index).map fun i => entryBytes 2 index groupBytes (s.survey.groups.get i)
  | 3 => (ofNumber 8 index).map fun i => entryBytes 3 index profileBytes (s.events.profiles.get i)
  | 4 => (ofNumber 4 index).map fun i => entryBytes 4 index binBytes (s.harmonics.binSets.get i)
  | 5 => (ofNumber 12 index).map fun i => entryBytes 5 index podEntryBytes (s.pods.table.get i)
  | 6 => (ofNumber 4 index).map fun i => entryBytes 6 index templateBytes (s.printer.templates.get i)
  | _ => none

def readTable (table index : Nat) (s : State) : Answer :=
  match tableEntry table index s with
  | some data => accept s data
  | none => refuse .badValue (if within 1 6 table then [] else u8 1) s

def execReadTable (tag : Byte) (table index : Nat) (s : State) : StepResult :=
  handle tag (.readTable table index) (readTable table index) s

/-! ## OPEN-SURVEY (R10 to R13) -/

/-- R10: the operand checks, by the place of the operand. Of several operands out of range the lowest place is named
(entry 46). -/
def openRanges (f : OpenFields) : List (Bool × Nat) :=
  [(within 1 65535 f.number, 1),
   (within 0 4294967295 f.wall, 2),
   (f.site.all fun t => within 1 8 t.length, 3),
   (f.crew.all fun t => within 1 4 t.length, 4)]

/-- R11: an item of a table: its table code and index. -/
abbrev Item := Nat × Nat

/-- R11: the first member that fails a test, named as a channel. -/
def firstMember (test : Nat → Bool) (g : GroupFields) : Option Item :=
  (g.members.find? fun c => !test c).map fun c => (1, c)

/-- R11: the channel entry of a number is set. -/
def Survey.isSet (x : Survey) (c : Nat) : Bool := (ofNumber 48 c).any fun i => (x.channels.get i).isSome

/-- R11: the channel has ANALYSE set to YES. -/
def Survey.analyses (x : Survey) (c : Nat) : Bool := (x.channel c).any fun m => m.analyse

/-- R11: the channel is a VOLTAGE one. -/
def Survey.isVoltage (x : Survey) (c : Nat) : Bool := (x.channel c).any fun m => decide (m.kind = .voltage)

/-- A check that names an item when it fails. -/
def naming (ok : Bool) (item : Item) : Option Item := if ok then none else some item

/-- R11: the checks of one set group, in order. -/
def State.groupFailure (n : Grp) (g : GroupFields) (s : State) : Option Item :=
  let x := s.survey
  let volts := (x.voltageMembers g).length
  [firstMember x.isSet g,
   firstMember x.analyses g,
   naming (within 1 4 volts) (2, ordinal n),
   naming (x.isVoltage g.refA && g.refB.all x.isVoltage) (2, ordinal n),
   naming (s.events.profileOf g).isSome (3, g.profile),
   naming (g.bins.isNone || (s.harmonics.binsOf g).isSome) (4, g.bins.getD 0)].findSome? id

/-- The set groups, ascending. -/
def Survey.setGroups (x : Survey) : List (Grp × GroupFields) :=
  (indexes 8).filterMap fun n => (x.groups.get n).map fun g => (n, g)

/-- R11: the lowest channel that is a member of two set groups. -/
def Survey.sharedChannel (x : Survey) : Option Item :=
  ((indexes 48).map ordinal).findSome? fun c =>
    if 2 ≤ x.setGroups.countP fun k => k.2.members.contains c then some (1, c) else none

/-- R11: the first failure of the cross-table checks. -/
def State.openFailure (s : State) : Option Item :=
  (s.survey.setGroups.findSome? fun (n, g) => s.groupFailure n g).or s.survey.sharedChannel

/-- R12: the pages a set group reserves. -/
def State.reservation (g : GroupFields) (s : State) : Nat :=
  ceilDiv (((s.events.profileOf g).map fun p => p.pre).getD 0 * g.members.length) 4

/-- R12: the total required. -/
def State.required (s : State) : Nat := (s.survey.setGroups.map fun (_, g) => s.reservation g).sum

/-- R13, R90: a set group's state in the Event Detector at OPEN-SURVEY, with its reserved pages. -/
def GroupEvents.opened (voltage : Nat) (pages : List Nat) : GroupEvents :=
  { GroupEvents.reset with members := List.replicate voltage ⟨0, 0, false, .normal⟩, reserved := pages }

/-- R13, R107: one set group with its reservation taken from the free pages. -/
def Events.openGroup (n : Grp) (voltage pages : Nat) (x : Events) : Events :=
  { x with
    groups := x.groups.set n (GroupEvents.opened voltage (x.freePages.take pages))
    freePages := x.freePages.drop pages }

/-- R13, R107: the stores of the Event Detector emptied and all pages freed. -/
def Events.emptied (x : Events) : Events :=
  { x with
    groups := Table.replicate 8 GroupEvents.reset
    sags := []
    freePages := List.range Config.capturePages
    lastSag := 0
    unrecorded := 0
    emission := none }

/-- R13: the Event Detector at OPEN-SURVEY. -/
def State.openEvents (s : State) : State :=
  s.mapEvents fun x =>
    s.survey.setGroups.foldl
      (fun x (n, g) => x.openGroup n (s.survey.voltageMembers g).length (s.reservation g)) x.emptied

/-- R13, R116: the Harmonic Analyser at OPEN-SURVEY. -/
def State.openHarmonics (s : State) : State :=
  let opened (n : Grp) : GroupHarmonics :=
    match s.survey.groups.get n with
    | none => GroupHarmonics.reset
    | some g =>
      match s.analysedBins g with
      | none => GroupHarmonics.reset
      | some bins => GroupHarmonics.opened (s.survey.analysed g) bins.orders
  s.mapHarmonics fun x =>
    { x with groups := Table.tabulate 8 opened, intervals := [], lastInterval := 0, lost := 0, emission := none }

/-- R13, R135, R151: the Note Store at OPEN-SURVEY. -/
def Notes.opened (f : OpenFields) (x : Notes) : Notes :=
  { Notes.reset with
    identity := ⟨some f.number, some f.wall, f.site, f.crew, none⟩
    markLost := x.markLost }

/-- R72: each set group's tracker at OPEN-SURVEY. -/
def State.openTrackers (s : State) : State :=
  s.mapTrackers fun x => Table.tabulate 8 fun n =>
    match s.survey.groups.get n with
    | some g => (x.get n).opened g
    | none => x.get n

/-- R13: an accepted OPEN-SURVEY. The block in formation closes with the ticks of the old numbering (R184). Taken after the close
of the tick in progress, whose samples are in that block already, it leaves tick 0 to no block: the next one begins with tick 1
(DESIGN CHOICE, unsafe, entry 73). -/
def State.openWith (f : OpenFields) (s : State) : State :=
  let s := (s.mapLink Link.closeBlock).openEvents.openHarmonics.openTrackers
  let s := s.mapNotes (Notes.opened f)
  let s := s.mapSurvey fun x => { x with number := some f.number, tick := 0, analysing := true }
  s.moveSurvey .opened .opened

def openSurvey (f : OpenFields) (s : State) : Answer :=
  if s.survey.state ≠ .closed then refuse .badState [] s
  else if !s.printer.jobs.isEmpty then refuse .busy [] s
  else
    match firstBad (openRanges f), s.openFailure with
    | some k, _ => refuse .badValue (u8 k) s
    | none, some (table, index) => refuse .badTable (u8 table ++ u8 index) s
    | none, none =>
      let pages := s.required
      if Config.historyPages < pages then refuse .noRoom (u8 pages) s
      else accept (s.openWith f) (u16 f.number ++ u8 pages)

def execOpenSurvey (tag : Byte) (f : OpenFields) (s : State) : StepResult :=
  handle tag (.openSurvey f) (openSurvey f) s

/-! ## CLOSE-SURVEY (R14, R15) -/

/-- R14: the close steps, group by group, and the analysis chain stops. -/
def State.closeSteps (s : State) : State :=
  let s := s.survey.setGroups.foldl (fun s (n, g) => (s.closeEvents n g).closeHarmonics n g) s
  s.mapSurvey fun x => { x with analysing := false }

/-- R14, R83: CLOSE-SURVEY. A boundary already decided is announced in full before anything else is done (entry 8). -/
def closeSurvey (s : State) : Answer :=
  if s.survey.state = .opened then
    accept ((s.placeBoundaries.moveSurvey .closing .close).closeSteps.testDrained) (u48 s.survey.tick)
  else refuse .badState [] s

def execCloseSurvey (tag : Byte) (s : State) : StepResult := handle tag .closeSurvey closeSurvey s

end Sys2Proof.Machine
end

