-- ==== Sys2Proof/Machine/Compose.lean ====
section
/-! DEFINITION. Composing the report (08, R158 to R164): the lines, strips and feeds of each section. The order and the
separation of the items of a line beyond the rules' words are the model's (entry 21). -/

namespace Sys2Proof.Machine

/-! ## Characters and fields -/

/-- The characters of a text. -/
def ascii (t : String) : List Byte := t.toList.map fun c => BitVec.ofNat 8 c.toNat

/-- The decimal digits of a number, the last first, with `fuel` at least their count. -/
def digitsFrom : Nat → Nat → List Byte
  | 0, _ => []
  | fuel + 1, n => BitVec.ofNat 8 (48 + n % 10) :: (if n < 10 then [] else digitsFrom fuel (n / 10))

/-- R158: a number in decimal without separators. -/
def decimal (n : Nat) : List Byte := (digitsFrom (n.log2 + 1) n).reverse

/-- R158: an absent field, one dash for each character of its printed width. -/
def dashes (n : Nat) : List Byte := List.replicate n 45#8

/-- R158: a field, or dashes of its width. -/
def fieldOr (width : Nat) : Option (List Byte) → List Byte
  | some t => t
  | none => dashes width

/-- R158: fields separated by one space. -/
def spaced : List (List Byte) → List Byte
  | [] => []
  | [t] => t
  | t :: rest => t ++ 32#8 :: spaced rest

/-- R158: a character outside 0x20..0x7E is printed as '?'. -/
def printable (c : Byte) : Byte := if 0x20 ≤ c.toNat ∧ c.toNat ≤ 0x7E then c else 0x3F#8

/-- R158: a line of 48 characters. -/
def padLine (t : List Byte) : List Byte := t ++ List.replicate (48 - t.length) 32#8

/-- R158: an item as lines of 48 characters. -/
def linesOf (t : List Byte) : List Message :=
  if t.isEmpty then [.text (padLine [])]
  else (pieces 48 (t.map printable)).map fun p => .text (padLine p)

/-- R158: a section's heading and its lines, or NONE. -/
def headed (name : String) (lines : List (List Byte)) : List Message :=
  linesOf (ascii name) ++ (if lines.isEmpty then linesOf (ascii "NONE") else lines.flatMap linesOf)

/-- A mask of 1..n holds a number. -/
def maskHolds (mask k : Nat) : Bool := mask.testBit (k - 1)

/-! ## Names -/

def nameMode : RingMode → String
  | .forward => "FORWARD"
  | .reverse => "REVERSE"
  | .split => "SPLIT"
  | .search => "SEARCH"
  | .down => "DOWN"

def namePodState : PodState → String
  | .disabled => "DISABLED"
  | .powering => "POWERING"
  | .joining => "JOINING"
  | .active => "ACTIVE"
  | .mismatch => "MISMATCH"
  | .off _ _ => "OFF"
  | .cooldown => "COOLDOWN"
  | .latched => "LATCHED"

def nameReason : OffReason → String
  | .silent => "SILENT"
  | .noJoin => "NO_JOIN"
  | .overtemp => "OVERTEMP"
  | .internal => "INTERNAL"
  | .commanded => "COMMANDED"
  | .feedStuck => "FEED_STUCK"

def nameSagKind : SagKind → String
  | .sag => "SAG"
  | .interruption => "INTERRUPTION"
  | .swell => "SWELL"

def nameNoteKind : NoteKind → String
  | .observation => "OBSERVATION"
  | .location => "LOCATION"
  | .customer => "CUSTOMER"
  | .equipment => "EQUIPMENT"
  | .photoRef => "PHOTO_REF"
  | .mark => "MARK"

/-- The names of the flags that are set. -/
def namesSet (l : List (Bool × String)) : List (List Byte) := (l.filter fun k => k.1).map fun k => ascii k.2

def EventFlags.names (f : EventFlags) : List (List Byte) :=
  namesSet
    [(f.gap, "GAP"), (f.nominal, "NOMINAL"), (f.flywheel, "FLYWHEEL"), (f.clipped, "CLIPPED"), (f.cut, "CUT"),
     (f.postShort, "POST_SHORT"), (f.bodyCut, "BODY_CUT"), (f.truncated, "TRUNCATED"), (f.swellAlso, "SWELL_ALSO")]

def IntervalRecord.names (r : IntervalRecord) : List (List Byte) :=
  namesSet [(r.isEmpty, "EMPTY"), (r.isPartial, "PARTIAL"), (r.lowFund, "LOW_FUND")]

/-! ## TITLE and KIT (R160) -/

def titleLines (j : Job) (i : Identity) : List (List Byte) :=
  [spaced
     [fieldOr Config.surveyNumberDashes (i.number.map decimal), fieldOr 8 i.site,
      fieldOr Config.wallTimeDashes (i.wall.map decimal)],
   spaced [fieldOr 4 i.crew, fieldOr 24 i.client],
   spaced [decimal j.number, decimal j.copy, decimal j.copies, decimal j.printTick]]

/-- R160: the lines of KIT. The ring mode, the pod state and the last off reason print as their names (DESIGN CHOICE, unsafe,
entry 60). -/
def kitLines (s : State) : List (List Byte) :=
  [spaced [ascii (nameMode s.ring.mode), decimal s.ring.tf, decimal s.ring.tr],
   spaced [decimal s.ring.lost, decimal s.ring.switches]] ++
  ((indexes 12).filter s.pods.enabled).map (fun p =>
    let r := s.pod p
    spaced
      [decimal (ordinal p), ascii (namePodState r.state), decimal r.retry,
       fieldOr 4 (r.lastReason.map fun k => ascii (nameReason k))]) ++
  [decimal s.notes.markLost]

/-! ## Sag sections (R161, R162) -/

/-- R161: the record passes the section's filter. -/
def SagFilter.passes (f : SagFilter) (r : SagRecord) : Bool :=
  maskHolds f.groups r.group && maskHolds f.kinds (codeSagKind r.kind) &&
  (decide (r.kind = .swell) || decide (r.residual ≤ f.maxResidual))

/-- The record of a retained entry. -/
def SagEntry.record? (e : SagEntry) : Option SagRecord :=
  match e.status with
  | .opened => none
  | .unsent _ r | .sent r => some r

/-- R161: the selected records that pass, ascending, with their entries. -/
def passing (f : SagFilter) (j : Job) (s : State) : List (SagEntry × SagRecord) :=
  j.sags.filterMap fun n =>
    (s.events.retained n).bind fun e => e.record?.bind fun r => if f.passes r then some (e, r) else none

/-- R161: the residual as a site value, with one decimal place. -/
def siteValue (r : SagRecord) (x : Survey) : List Byte :=
  fieldOr 7 ((x.channel r.worst).map fun c =>
    let v := r.residual * c.declared / 10000
    decimal (v / 10) ++ 46#8 :: decimal (v % 10))

/-- R161: the SAG_LIST entry of a record. The kind prints as its name (entry 60). -/
def sagLine (x : Survey) (r : SagRecord) : List Byte :=
  spaced
    ([decimal r.number, decimal r.group, ascii (nameSagKind r.kind), decimal r.start, decimal r.ms, decimal r.residual,
      siteValue r x, decimal r.worst] ++
     (match r.burst with | some b => [decimal b.1, decimal b.2] | none => []) ++ r.flags.names)

/-- R161: the line that ends a sag section. -/
def notRetainedLine (j : Job) : List Message := linesOf (spaced [ascii "NOT RETAINED", decimal j.notRetained])

/-- R161: the further lines of a SAG_DETAIL entry. -/
def detailLines (r : SagRecord) : List (List Byte) :=
  [spaced (r.involved.map decimal), spaced (r.extremes.flatMap fun e => [decimal e.1, decimal e.2])] ++
  (r.maximum.map decimal).toList ++
  [match r.capture with
   | some c => spaced (c.members.map decimal ++ [decimal c.pre, decimal c.body, decimal c.post])
   | none => ascii "NO CAPTURE"]

/-- R162: the dot row of a sample. -/
def dotRow (v : Int) : Nat := ((32767 - v) * 64 / 65536).toNat

/-- R162: the samples column `j` covers, of a series. -/
def columnSamples (series : List Int) (j : Nat) : List Int :=
  let c := series.length
  let a := j * c / 384
  if c < 384 then (series.drop a).take 1 else (series.drop a).take ((j + 1) * c / 384 - a)

/-- R162: the dots of column `j` as its highest and lowest dotted row. A series holds at least one sample. -/
def columnSpan (series : List Int) (j : Nat) : Option (Nat × Nat) :=
  let rows := (columnSamples series j).map dotRow
  match smallest rows, largest rows with
  | some a, some b => some (a, b)
  | _, _ => none

/-- R162: the dot at row `i` of column `j` whose span is given. -/
def dotAt (i j : Nat) (span : Option (Nat × Nat)) : Bool :=
  span.any (fun k => decide (k.1 ≤ i) && decide (i ≤ k.2)) || (decide (i = 32) && decide (j % 8 = 0))

/-- R162: the strip of a series, as eight DOTS messages. -/
def strip (series : List Int) : List Message :=
  let spans := ((List.range 384).map (columnSpan series)).zipIdx
  (List.range 8).map fun b => .dots ((List.range 8).map fun i => spans.map fun (k, j) => dotAt (8 * b + i) j k)

/-- R162: the stored series of the worst channel. -/
def worstSeries (e : SagEntry) (r : SagRecord) : List Int :=
  e.rows.map fun row => nth 0 row (r.captured.idxOf r.worst)

/-- R161: a record of SAG_DETAIL. -/
def detailMessages (x : Survey) (e : SagEntry) (r : SagRecord) : List Message :=
  (sagLine x r :: detailLines r).flatMap linesOf ++ (if r.capture.isSome then strip (worstSeries e r) else [])

def sagListMessages (f : SagFilter) (j : Job) (s : State) : List Message :=
  headed "SAG_LIST" ((passing f j s).map fun k => sagLine s.survey k.2) ++ notRetainedLine j

def sagDetailMessages (f : SagFilter) (j : Job) (s : State) : List Message :=
  let l := passing f j s
  (if l.isEmpty then headed "SAG_DETAIL" []
   else linesOf (ascii "SAG_DETAIL") ++ l.flatMap fun (e, r) => detailMessages s.survey e r) ++
  notRetainedLine j

/-! ## Harmonic sections (R163) -/

/-- R163: the groups of both masks, ascending. -/
def maskedGroups (mask : Nat) (j : Job) : List Grp :=
  (indexes 8).filter fun g => maskHolds mask (ordinal g) && maskHolds j.mask (ordinal g)

/-- R163: the selected interval of a group with the highest number. -/
def lastInterval (g : Grp) (j : Job) (x : Harmonics) : Option IntervalRecord :=
  ((x.intervals.map fun e => e.record).filter fun r =>
    decide (r.group = ordinal g) && j.intervals.contains r.number).getLast?

/-- R163: the lines of an interval. An EMPTY one prints its first line alone. -/
def intervalLines (r : IntervalRecord) : List (List Byte) :=
  spaced
    ([r.number, r.group, r.start, r.stop, r.total, r.used, r.flagged, r.invalid, r.frequency].map decimal ++ r.names) ::
  (if r.isEmpty then []
   else r.sections.flatMap fun k =>
     [spaced [decimal k.channel, fieldOr 7 (k.fundamental.map decimal)]] ++
     k.orders.map (fun o => spaced [decimal o.order, decimal o.value, fieldOr 5 (o.ratio.map decimal)]) ++
     [spaced (fieldOr 5 (k.thd.map decimal) :: k.exceeded.map decimal)])

/-- R163: the lines of one group's summary. The group number before the channel and the order number before the peak, which R163
does not name, are printed so that a line can be told from the next (DESIGN CHOICE, unsafe, entry 70). Order 1 prints its cell's
exceedance count too, which R128 never raises (entry 49). -/
def peakLines (g : Grp) (x : GroupSummary) : List (List Byte) :=
  (x.members.zip x.cells).flatMap fun (c, cells) =>
    spaced [decimal (ordinal g), decimal c] ::
    ((1 :: x.orders).zip cells).map fun (h, k) =>
      spaced
        ([decimal h, decimal k.peak, fieldOr 7 (k.minimum.map decimal)] ++
         (if h = 1 then [] else [fieldOr 5 (k.ratio.map decimal)]) ++ [decimal k.exceedances])

def tableMessages (mask : Nat) (j : Job) (s : State) : List Message :=
  headed "HARMONIC_TABLE"
    ((maskedGroups mask j).flatMap fun g => ((lastInterval g j s.harmonics).map intervalLines).getD [])

def peaksMessages (mask : Nat) (j : Job) (s : State) : List Message :=
  headed "HARMONIC_PEAKS" ((maskedGroups mask j).flatMap fun g => peakLines g (s.harmonics.groups.get g).summary)

/-! ## NOTES (R164) -/

/-- R164: a note's lines: its items, the kind as its name (entry 60), then its text. -/
def noteLines (n : Nat) (note : Note) (s : State) : List (List Byte) :=
  let sag :=
    match note.sag with
    | some l => [decimal l.sag, ascii (if (s.events.retained l.sag).isSome then "RETAINED" else "NOT RETAINED")]
    | none => []
  spaced
    ([decimal n, ascii (nameNoteKind note.kind), decimal note.refer] ++ (note.predecessor.map decimal).toList ++ sag ++
     (note.interval.map decimal).toList ++ (note.pod.map fun p => decimal (ordinal p)).toList) ::
  pieces 48 (s.notes.textOf note)

/-- R164: the LIVE notes of the section, in number order. -/
def notesMessages (kinds : Nat) (j : Job) (s : State) : List Message :=
  headed "NOTES"
    ((s.notes.notes.zipIdx.filter fun (n, _) =>
        decide (n.state = .live) && maskHolds kinds (codeNoteKind n.kind) && within j.fromTick j.toTick n.refer).flatMap
      fun (n, i) => noteLines (i + 1) n s)

/-! ## A section (R158, R159) -/

/-- R159: the messages of a section from the state as it stands when its composition begins. -/
def composeSect (j : Job) (s : State) : Sect → List Message
  | .title => headed "TITLE" (titleLines j s.notes.identity)
  | .kit => headed "KIT" (kitLines s)
  | .sagList f => sagListMessages f j s
  | .sagDetail f => sagDetailMessages f j s
  | .harmonicTable m => tableMessages m j s
  | .harmonicPeaks m => peaksMessages m j s
  | .notes k => notesMessages k j s
  | .signOff n => List.replicate n (.text (padLine []))
  | .feed n => [.feed n]

end Sys2Proof.Machine
end

