-- ==== Sys2Proof/Machine/Printer.lean ====
section
/-! DEFINITION. Report Printing (08): templates and settings, jobs, selection and pins, the printer line and its timers, and
cancellation. -/

namespace Sys2Proof.Machine

/-! ## LOAD-TEMPLATE and LOAD-PRINTER (R152 to R154) -/

/-- R6: a live job uses the template. -/
def Printer.usesTemplate (index : Nat) (x : Printer) : Bool := x.jobs.any fun j => decide (j.template = index)

def loadTemplate (index : Nat) (fields : Option TemplateFields) (s : State) : Answer :=
  match loadChecks 4 (s.printer.usesTemplate index) index fields templateRanges noCross with
  | .refused r data => refuse r data s
  | .taken i f =>
    accept
      (s.mapPrinter fun x => { x with templates := x.templates.set i (f.map fun t => t.sections.filterMap sectOf) })
      (u8 (ordinal i))

def execLoadTemplate (tag : Byte) (index : Nat) (fields : Option TemplateFields) (s : State) : StepResult :=
  handle tag (.loadTemplate index fields) (loadTemplate index fields) s

def loadPrinter (f : PrinterFields) (s : State) : Answer :=
  match firstBad (printerRanges f), firstBad (printerCross f) with
  | some k, _ => refuse .badValue (u8 k) s
  | none, some k => refuse .badTable (u8 k) s
  | none, none =>
    let s := s.mapPrinter fun x => { x with settings := f }
    accept s (settingsBytes s.printer.settings)

def execLoadPrinter (tag : Byte) (f : PrinterFields) (s : State) : StepResult :=
  handle tag (.loadPrinter f) (loadPrinter f) s

/-! ## Jobs (R155) -/

/-- R155: PRINTING or HELD. -/
def Job.isActive (j : Job) : Bool := decide (j.state ≠ .queued)

/-- R155: the job PRINTING or HELD. -/
def Printer.active (x : Printer) : Option Job := x.jobs.find? Job.isActive

/-- The job of a number replaced. -/
def Printer.put (j : Job) (x : Printer) : Printer :=
  { x with jobs := x.jobs.map fun k => if k.number = j.number then j else k }

/-- R166: the message of the job's place is sent and its reply timer starts. A TEXT line stands in the line buffer (R158); any
other message leaves the last one there, as the end of a job does (DESIGN CHOICE, unsafe, entry 64). -/
def Printer.send (j : Job) (x : Printer) : Printer :=
  { x.put j with
    exchange := .message 0
    lineBuffer := match j.current with | .text t => t | _ => x.lineBuffer }

/-- R155: a job as it starts PRINTING: its place is the opening query. -/
def Job.start (j : Job) : Job :=
  { j with state := .printing, copy := 1, held := 0, current := .query, rest := [], nextSect := 0, retries := 0 }

/-- R155: the oldest QUEUED job starts when no job is PRINTING or HELD. -/
def Printer.startNext (x : Printer) : Printer :=
  match x.active, x.jobs.head? with
  | none, some j => x.send j.start
  | _, _ => x

/-! ## Pins (R108, R130, R157) -/

/-- The pins of the retained sag entries listed, changed. -/
def Events.mapPins (ns : List Nat) (f : Nat → Nat) (x : Events) : Events :=
  { x with sags := x.sags.map fun e =>
      if ns.contains e.number && e.status.retained then { e with pins := f e.pins } else e }

/-- The pins of the interval entries listed, changed. -/
def Harmonics.mapPins (ns : List Nat) (f : Nat → Nat) (x : Harmonics) : Harmonics :=
  { x with intervals := x.intervals.map fun e =>
      if ns.contains e.record.number then { e with pins := f e.pins } else e }

/-- The pins of a job added or removed. -/
def State.pin (j : Job) (f : Nat → Nat) (s : State) : State :=
  (s.mapEvents (Events.mapPins j.sags f)).mapHarmonics (Harmonics.mapPins j.intervals f)

/-! ## The end of a job (R169) -/

/-- R169: a job ends: it leaves the queue, its pins are removed and a JOB notice is offered. -/
def State.removeJob (j : Job) (ending : JobEnding) (s : State) : State :=
  let s := s.mapPrinter fun x =>
    { x with
      jobs := x.jobs.filter fun k => decide (k.number ≠ j.number)
      exchange := if j.isActive then .idle else x.exchange }
  (s.pin j (· - 1)).offer (.job j.number ending j.copy)

/-- R169: a job ends and the oldest QUEUED job starts. -/
def State.endJob (j : Job) (ending : JobEnding) (s : State) : State :=
  (s.removeJob j ending).mapPrinter Printer.startNext

/-! ## The next message (R158, R159, R166) -/

/-- R152: the sections of a job's template. -/
def Printer.sects (j : Job) (x : Printer) : List Sect :=
  (((ofNumber 4 j.template).bind x.templates.get)).getD []

/-- R158, R159: section `k` of the template is composed, the print tick being taken with the first of a copy. -/
def Job.compose (k : Nat) (sect : Sect) (s : State) (j : Job) : Job :=
  let j := { j with nextSect := k + 1, printTick := if k = 0 then s.survey.tick else j.printTick }
  match composeSect j s sect with
  | [] => j
  | m :: rest => { j with current := m, rest := rest }

/-- R158: the message after a complete one, or none when the last copy is complete. -/
def State.nextMessage (j : Job) (s : State) : Option Job :=
  match j.rest with
  | m :: rest => some { j with current := m, rest := rest }
  | [] =>
    match (s.printer.sects j)[j.nextSect]? with
    | some sect => some (j.compose j.nextSect sect s)
    | none =>
      if j.copy < j.copies then (s.printer.sects j)[0]?.map fun sect => { j with copy := j.copy + 1 }.compose 0 sect s
      else none

/-- R166: the job's message is complete. -/
def State.complete (j : Job) (s : State) : State :=
  let j := { j with state := .printing, retries := 0, held := 0 }
  match s.nextMessage j with
  | some j => s.mapPrinter (Printer.send j)
  | none => s.endJob j .done

/-! ## SUBMIT-PRINT (R156, R157) -/

/-- R156: the operand checks. Of several operands out of range the lowest place is named (entry 46). -/
def submitRanges (f : SubmitFields) : List (Bool × Nat) :=
  [(within 1 4 f.template, 1),
   (decide (f.fromTick ≤ Config.tickLimit) && decide (f.fromTick ≤ f.toTick), 2),
   (decide (f.toTick ≤ Config.tickLimit), 3),
   (within 1 255 f.mask, 4),
   (within 1 3 f.copies, 5)]

/-- R156: the next job number not held by a live job, trying at most `fuel` numbers. -/
def freeNumber (held : List Nat) : Nat → Nat → Nat
  | 0, n => n
  | fuel + 1, n => if held.contains n then freeNumber held fuel (n % 65535 + 1) else n

/-- R156: the number of the next job. -/
def Printer.nextNumber (x : Printer) : Nat :=
  freeNumber (x.jobs.map fun j => j.number) x.jobs.length (x.lastJob % 65535 + 1)

/-- R157: the records of the retained sag entries, ascending. -/
def Events.records (x : Events) : List SagRecord := x.sags.filterMap SagEntry.record?

/-- R157: the sag selection. -/
def Events.select (f : SubmitFields) (x : Events) : List Nat :=
  (x.records.filter fun r => maskHolds f.mask r.group && within f.fromTick f.toTick r.start).map fun r => r.number

/-- R157: the interval selection. -/
def Harmonics.select (f : SubmitFields) (x : Harmonics) : List Nat :=
  ((x.intervals.map fun e => e.record).filter fun r =>
    maskHolds f.mask r.group && within f.fromTick f.toTick r.stop).map fun r => r.number

/-- R157: the not-retained count. -/
def Events.notRetained (f : SubmitFields) (x : Events) : Nat :=
  let below := (x.records.filter fun r => decide (r.start < f.fromTick)).map fun r => r.number
  let above := (x.records.filter fun r => decide (f.toTick < r.start)).map fun r => r.number
  let lo := match largest below with | some n => n + 1 | none => 1
  let hi := match smallest above with | some n => n - 1 | none => x.lastSag
  sat16 (hi + 1 - lo - x.records.countP fun r => within lo hi r.number)

/-- R155, R157: the record of an accepted job. It stands at copy 1 before it starts (entry 48). -/
def newJob (n : Nat) (f : SubmitFields) (s : State) : Job where
  number := n
  template := f.template
  fromTick := f.fromTick
  toTick := f.toTick
  mask := f.mask
  copies := f.copies
  copy := 1
  state := .queued
  sags := s.events.select f
  intervals := s.harmonics.select f
  notRetained := s.events.notRetained f
  cancel := false
  current := .query
  rest := []
  nextSect := 0
  printTick := 0
  retries := 0
  held := 0

/-- R156: the template of a number is set. -/
def Printer.hasTemplate (k : Nat) (x : Printer) : Bool := ((ofNumber 4 k).bind x.templates.get).isSome

def submitPrint (f : SubmitFields) (s : State) : Answer :=
  match firstBad (submitRanges f) with
  | some k => refuse .badValue (u8 k) s
  | none =>
    if !s.printer.hasTemplate f.template then refuse .unknownItem [] s
    else if Config.jobLimit ≤ s.printer.jobs.length then refuse .noRoom [] s
    else
      let j := newJob s.printer.nextNumber f s
      let s := (s.pin j (· + 1)).mapPrinter fun x =>
        Printer.startNext { x with jobs := x.jobs ++ [j], lastJob := j.number }
      accept s (u16 j.number ++ u8 j.sags.length ++ u8 j.intervals.length ++ u16 j.notRetained)

def execSubmitPrint (tag : Byte) (f : SubmitFields) (s : State) : StepResult :=
  handle tag (.submitPrint f) (submitPrint f) s

/-! ## CANCEL-PRINT (R170) -/

/-- R170: an exchange awaits its STATUS. -/
def Exchange.awaiting : Exchange → Bool
  | .message _ | .poll _ | .heldPoll _ | .cancelFeed _ => true
  | .idle | .retryWait _ | .pollGap _ | .heldGap _ | .cooldown _ => false

def cancelPrint (n : Nat) (s : State) : Answer :=
  if n = 0 then refuse .badValue [] s
  else
    match s.printer.jobs.find? fun j => decide (j.number = n) with
    | none => refuse .unknownItem [] s
    | some j =>
      let data := u16 n ++ u8 (codeJobState j.state)
      if j.cancel then refuse .badState [] s
      else if j.isActive && s.printer.exchange.awaiting then
        accept (s.mapPrinter (Printer.put { j with cancel := true })) data
      else accept (s.endJob j .cancelledHost) data

def execCancelPrint (tag : Byte) (n : Nat) (s : State) : StepResult := handle tag (.cancelPrint n) (cancelPrint n) s

/-! ## The printer status (R165) -/

/-- R165: the hot mark after a STATUS. -/
def nextHot (f : PrinterFields) (temp : Int) (hot : Bool) : Bool :=
  if (f.hotLimit : Int) ≤ temp then true else if temp ≤ (f.resumeLimit : Int) then false else hot

/-- R165: what a PRINTER notice reports a change of. -/
def Printer.reported (x : Printer) : Option Bool × Option Nat × Bool × Answering :=
  (x.status.map fun s => s.paper, x.status.map fun s => s.fault, x.hot, x.answering)

/-- R165: a PRINTER notice, with the job PRINTING or HELD. -/
def State.printerNotice (s : State) : State :=
  s.offer (.printer s.printer.status s.printer.answering s.printer.hot (s.printer.active.map fun j => j.number))

/-- R165: a change of the printer status, with one PRINTER notice when it changes what is reported (entry 23). -/
def State.updateStatus (f : Printer → Printer) (s : State) : State :=
  let old := s.printer.reported
  let s := s.mapPrinter f
  if s.printer.reported = old then s else s.printerNotice

/-- R165: a STATUS taken into the printer status. -/
def Printer.takeStatus (st : PrinterStatus) (x : Printer) : Printer :=
  { x with status := some st, answering := .answering, hot := nextHot x.settings st.temp x.hot }

/-- R165: a STATUS is good, the hot mark being as updated. -/
def goodStatus (st : PrinterStatus) (hot : Bool) : Bool := st.ready && st.paper && decide (st.fault = 0) && !hot

/-! ## PRINTER_STATUS (R166, R168, R170) -/

/-- R166, R168: the job is HELD with a reason; the next poll goes 1 s later. -/
def State.hold (reason : HeldReason) (j : Job) (s : State) : State :=
  s.mapPrinter fun x => { x.put { j with state := .held reason } with exchange := .heldGap 0 }

/-- R166: the STATUS of a message, or of a poll made for it. -/
def State.judgeMessage (st : PrinterStatus) (j : Job) (s : State) : State :=
  if st.fault ≠ 0 then s.endJob j (.failedFault st.fault)
  else if !st.paper then s.hold .paper j
  else if s.printer.hot then s.hold .hot j
  else if !st.ready then s.mapPrinter fun x => { x with exchange := .pollGap 0 }
  else s.complete j

/-- R168: the good answer that resumes a held job: the interrupted message is sent again, or the opening query is complete. -/
def State.resume (j : Job) (s : State) : State :=
  match j.current with
  | .query => s.complete j
  | _ => s.mapPrinter (Printer.send { j with state := .printing, retries := 0, held := 0 })

/-- R168: the answer to a held poll. -/
def State.judgeHeld (st : PrinterStatus) (j : Job) (s : State) : State :=
  if st.fault ≠ 0 then s.endJob j (.failedFault st.fault)
  else if !st.paper then s.hold .paper j
  else if s.printer.hot then s.hold .hot j
  else if !st.ready then s.mapPrinter fun x => { x with exchange := .heldGap 0 }
  else s.resume j

/-- R170: the STATUS of an exchange of a job with the cancel mark: a FEED of 64 lines follows when the job is PRINTING and
the STATUS good, and the job ends otherwise. The held limit runs on over that FEED (entry 54). -/
def State.judgeCancelled (st : PrinterStatus) (j : Job) (s : State) : State :=
  if j.state = .printing ∧ goodStatus st s.printer.hot = true then
    s.mapPrinter fun x => { x.put { j with current := .feed 64, rest := [] } with exchange := .cancelFeed 0 }
  else s.endJob j .cancelledHost

/-- PRINTER_STATUS: the status is updated and the STATUS judged against the exchange that awaits it; a late one completes
nothing and leaves the held limit running (entry 54). A STATUS names no exchange, so one for an exchange that R169 abandoned, or
whose timer has run out, is taken as the answer of the exchange that awaits when it comes (DESIGN CHOICE, unsafe, entry 59). -/
def execPrinterStatus (st : PrinterStatus) (s : State) : StepResult :=
  let s := s.updateStatus (Printer.takeStatus st)
  match s.printer.active with
  | none => .next s
  | some j =>
    match s.printer.exchange with
    | .cancelFeed _ => .next (s.endJob j .cancelledHost)
    | .message _ | .poll _ => .next (if j.cancel then s.judgeCancelled st j else s.judgeMessage st j)
    | .heldPoll _ => .next (if j.cancel then s.judgeCancelled st j else s.judgeHeld st j)
    | .idle | .retryWait _ | .pollGap _ | .heldGap _ | .cooldown _ => .next s

/-! ## The printer timers (R166 to R169) -/

/-- R167: no STATUS came for a message or a poll made for it. -/
def State.noReply (j : Job) (s : State) : State :=
  let f := s.printer.settings
  if j.retries < f.retryLimit then
    s.mapPrinter fun x =>
      { x.put { j with retries := j.retries + 1 } with exchange := .retryWait ⟨0, msTicks f.retryMs⟩ }
  else if 0 < f.cooldown then
    s.mapPrinter fun x =>
      { x.put { j with state := .held .noReply } with exchange := .cooldown ⟨0, secondTicks f.cooldown⟩ }
  else s.endJob j .failedNoReply

/-- R167: the printer does not answer. -/
def State.notAnswering (s : State) : State := s.updateStatus fun x => { x with answering := .notAnswering }

/-- R167, R168, R170: the 500 ms reply timer of an exchange, `e` ticks after its send. -/
def State.replyTimeout (s : State) : State :=
  match s.printer.active, s.printer.exchange with
  | some j, .message e | some j, .poll e =>
    if Config.printReplyTicks ≤ e then
      let s := s.notAnswering
      if j.cancel then s.endJob j .cancelledHost else s.noReply j
    else s
  | some j, .heldPoll e =>
    if Config.printReplyTicks ≤ e then
      if j.cancel then s.endJob j .cancelledHost else s.mapPrinter fun x => { x with exchange := .heldGap e }
    else s
  | some j, .cancelFeed e => if Config.printReplyTicks ≤ e then s.notAnswering.endJob j .cancelledHost else s
  | _, _ => s

def execPrintReplyTimeout (s : State) : StepResult := .next s.replyTimeout

/-- R167: the retry interval is over and the message is sent again whole. -/
def State.retryInterval (s : State) : State :=
  match s.printer.active, s.printer.exchange with
  | some j, .retryWait t => if t.over then s.mapPrinter (Printer.send j) else s
  | _, _ => s

def execPrintRetryInterval (s : State) : StepResult := .next s.retryInterval

/-- R166: 50 ms after a busy STATUS a query is sent as a poll for the same message. -/
def State.pollDelay (s : State) : State :=
  match s.printer.active, s.printer.exchange with
  | some _, .pollGap e => if Config.pollGapTicks ≤ e then s.mapPrinter fun x => { x with exchange := .poll 0 } else s
  | _, _ => s

def execPrintPollDelay (s : State) : StepResult := .next s.pollDelay

/-- R168: a held poll is sent. -/
def State.heldPoll (s : State) : State :=
  match s.printer.active, s.printer.exchange with
  | some _, .heldGap e => if Config.heldGapTicks ≤ e then s.mapPrinter fun x => { x with exchange := .heldPoll 0 } else s
  | _, _ => s

def execHeldPoll (s : State) : StepResult := .next s.heldPoll

/-- R167: the cooldown is over: the job is PRINTING and its message is sent again with retry count 0. -/
def State.printCooldown (s : State) : State :=
  match s.printer.active, s.printer.exchange with
  | some j, .cooldown t =>
    if t.over then s.mapPrinter (Printer.send { j with state := .printing, retries := 0 }) else s
  | _, _ => s

def execPrintCooldownExpiry (s : State) : StepResult := .next s.printCooldown

/-- R169: the reason of a job whose held limit expires. -/
def heldEnding : JobState → JobEnding
  | .held .paper => .failedPaper
  | .held .hot => .failedHot
  | .held .noReply => .failedNoReply
  | .printing | .queued => .failedBusy

/-- R169, R170: the held limit of the job PRINTING or HELD, read from the settings as they stand (entry 40). -/
def State.heldLimit (s : State) : State :=
  match s.printer.active with
  | none => s
  | some j =>
    if minuteTicks s.printer.settings.heldMinutes ≤ j.held then
      s.endJob j (if j.cancel then .cancelledHost else heldEnding j.state)
    else s

def execHeldLimitExpiry (s : State) : StepResult := .next s.heldLimit

/-- One tick begun for the exchange in hand. -/
def Exchange.tick : Exchange → Exchange
  | .idle => .idle
  | .message e => .message (e + 1)
  | .poll e => .poll (e + 1)
  | .heldPoll e => .heldPoll (e + 1)
  | .cancelFeed e => .cancelFeed (e + 1)
  | .retryWait t => .retryWait t.tick
  | .pollGap e => .pollGap (e + 1)
  | .heldGap e => .heldGap (e + 1)
  | .cooldown t => .cooldown t.tick

/-- One tick begun for the timers of the Print Controller. -/
def Printer.tick (x : Printer) : Printer :=
  { x with
    exchange := x.exchange.tick
    jobs := x.jobs.map fun j => if j.isActive then { j with held := j.held + 1 } else j }

/-- R171: RESTART cancels every live job, oldest first. -/
def State.cancelAll (s : State) : State :=
  let s := s.printer.jobs.foldl (fun s j => s.removeJob j .cancelledRestart) s
  s.mapPrinter fun x => { x with exchange := .idle, lineBuffer := [] }

end Sys2Proof.Machine
end

