-- ==== Sys2Proof/Machine/Link.lean ====
section
/-! DEFINITION. The Station Link (09): the receiver, directives that cannot be read, LOAD-LINK, and the arbiter. -/

namespace Sys2Proof.Machine

/-! ## The receiver (R175, R176) -/

/-- R176: a directive arrives. -/
def Link.arrive (tag : Byte) (payload : List Byte) (l : Link) : Link :=
  if l.directives.length < Config.directiveDepth then { l with directives := l.directives ++ [⟨tag, payload⟩] }
  else { l with overrun := bump8 l.overrun 1, overruns := bump l.overruns }

/-- R175: the frame in hand is discarded and counted, and hunting resumes. -/
def Link.discard (l : Link) : Link := { l with receiver := .hunting false, linkErrors := bump l.linkErrors }

/-- R173: the kind of an inbound directive. -/
def kindDirective : Byte := 0x01

/-- R174, R175: a whole frame, from its kind to its check sequence. -/
def Link.frameEnd (body : List Byte) (l : Link) : Link :=
  let covered := body.take (body.length - 2)
  if (crc covered).toNat = beNat (body.drop (body.length - 2)) ∧ nth 0#8 body 0 = kindDirective then
    { l with receiver := .hunting false }.arrive (nth 0#8 body 1) (covered.drop 4)
  else l.discard

/-- The length field of a frame of which at least four bytes have come. -/
def frameLength (body : List Byte) : Nat := beNat ((body.drop 2).take 2)

/-- R175: a byte of a frame. The length is judged when it has been read. -/
def Link.frameByte (body : List Byte) (l : Link) : Link :=
  if body.length < 4 then { l with receiver := .inFrame body 0 }
  else if Config.payloadLimit < frameLength body then l.discard
  else if body.length < frameLength body + 6 then { l with receiver := .inFrame body 0 }
  else l.frameEnd body

/-- R175: a byte while hunting: 0xA5 followed at once by 0x5A, that is, by no other byte between them. No time limit runs
while hunting (entry 55). -/
def hunt (armed : Bool) (b : Byte) : Receiver :=
  if armed && decide (b = 0x5A) then .inFrame [] 0 else .hunting (decide (b = 0xA5))

/-- R175: more than 1,024 ticks have passed since the last byte of the frame. -/
def gapOver (gap : Nat) : Bool := decide (Config.byteGapTicks < gap)

/-- R175: one byte received. A byte after the gap has run out finds the frame discarded (entry 29). -/
def Link.receive (l : Link) (b : Byte) : Link :=
  match l.receiver with
  | .hunting armed => { l with receiver := hunt armed b }
  | .inFrame body gap =>
    if gapOver gap then { l.discard with receiver := hunt false b } else l.frameByte (body ++ [b])

/-- INBOUND_FRAME: bytes received on the station link, one after the other. -/
def execInboundFrame (bytes : List Byte) (s : State) : StepResult :=
  .next (s.mapLink fun l => bytes.foldl Link.receive l)

/-- R175: the byte gap of a frame has run out. -/
def Link.byteGap (l : Link) : Link :=
  match l.receiver with
  | .hunting _ => l
  | .inFrame _ gap => if gapOver gap then l.discard else l

def execByteGapTimeout (s : State) : StepResult := .next (s.mapLink Link.byteGap)

/-- One tick begun since the last byte. -/
def Receiver.tick : Receiver → Receiver
  | .hunting armed => .hunting armed
  | .inFrame body gap => .inFrame body (gap + 1)

/-! ## BAD_DIRECTIVE (R176, R179) -/

/-- The directive code as received; a free value for an empty payload (entry 27). -/
def receivedCode : List Byte → Byte
  | [] => Config.absentDirectiveCode
  | b :: _ => b

/-- BAD_DIRECTIVE: a directive whose payload cannot be read is taken and answered, with no other effect. -/
def execBadDirective (tag : Byte) (payload : List Byte) (s : State) : StepResult :=
  match parseDirective payload with
  | some _ => .next s
  | none =>
    match s.take tag fun p => decide (p = payload) with
    | none => .next s
    | some s => .next (s.fill tag (receivedCode payload) .badDirective [])

/-! ## LOAD-LINK (R180) -/

def loadLink (g : Nat) (s : State) : Answer :=
  if within 0 64 g then accept (s.mapLink fun l => { l with grant := g }) (u8 g) else refuse .badValue (u8 1) s

def execLoadLink (tag : Byte) (g : Nat) (s : State) : StepResult := handle tag (.loadLink g) (loadLink g) s

/-! ## The arbiter (R183) -/

/-- R183: a frame other than a reply begins: it takes the outbound sequence number as its tag. -/
def Link.transmit (kind : Byte) (payload : List Byte) (l : Link) : Link :=
  { l with
    transmitting := some (stationFrame kind (BitVec.ofNat 8 l.sequence) payload)
    sequence := (l.sequence + 1) % 256 }

/-- R178: the oldest full reply begins, and its entry is free. -/
def Link.sendReply (r : Reply) (rest : List Reply) (l : Link) : Link :=
  { l with replies := rest, transmitting := some (stationFrame kindReply r.tag (replyPayload r)) }

/-- R187: the oldest notice begins with the lost count, which returns to 0. -/
def Link.sendNotice (n : Notice) (rest : List Notice) (l : Link) : Link :=
  { l with notices := rest, lostNotices := 0 }.transmit kindNotice (noticePayload l.lostNotices n)

/-- R183: the oldest frame of the record queue begins, and the grant count returns to 0. -/
def Link.sendRecord (f : RecordFrame) (rest : List RecordFrame) (l : Link) : Link :=
  { l with records := rest, grantCount := 0 }.transmit (recordPayload f).1 (recordPayload f).2

/-- R183: the oldest sample frame begins, leaving the given grant count. -/
def Link.sendSample (f : SampleFrame) (rest : List SampleFrame) (count : Nat) (l : Link) : Link :=
  { l with samples := rest, grantCount := count }.transmit kindSample (samplePayload f)

/-- R183: the arbiter's choice when the transmitter is free (entry 28). -/
def Link.arbitrate (l : Link) : Link :=
  match l.replies, l.notices, l.records, l.samples with
  | r :: rest, _, _, _ => l.sendReply r rest
  | [], n :: rest, _, _ => l.sendNotice n rest
  | [], [], r :: rs, f :: fs =>
    if 0 < l.grant ∧ l.grant ≤ l.grantCount then l.sendRecord r rs else l.sendSample f fs (min (l.grantCount + 1) 64)
  | [], [], r :: rs, [] => l.sendRecord r rs
  | [], [], [], f :: fs => l.sendSample f fs 0
  | [], [], [], [] => { l with transmitting := none }

def execFrameSend (s : State) : StepResult := .next (s.mapLink Link.arbitrate)

/-! ## The block in formation at a tick (R18, R184) -/

/-- R184: the value and gap flag of each RAW channel. -/
def rawRow (r : Ring) (raw : List Nat) : List (Int × Bool) := raw.map fun c => ((r.latchOf c).value, (r.latchOf c).gap)

/-- R184: the tick is added to the block in formation, which begins with it when there is none. -/
def Link.takeTick (tick : Nat) (raw : List Nat) (row : List (Int × Bool)) (l : Link) : Link :=
  if raw.isEmpty then l
  else
    match l.block with
    | none => { l with block := some ⟨tick, raw, [row]⟩ }
    | some b => { l with block := some { b with rows := b.rows ++ [row] } }

/-- R184: the block has taken 32 ticks. -/
def Link.blockFull (l : Link) : Bool := l.block.any fun b => decide (Config.blockTicks ≤ b.rows.length)

/-- R184: sample formation takes the tick, with the RAW set held for it when a LOAD-CHANNEL has changed the set, which then
closes the block. -/
def State.formSamples (s : State) : State :=
  let raw := s.link.rawHold.getD s.survey.rawSet
  s.mapLink fun l =>
    let held := l.rawHold.isSome
    let l := { l with rawHold := none }.takeTick s.survey.tick raw (rawRow s.ring raw)
    if held || l.blockFull then l.closeBlock else l

end Sys2Proof.Machine
end

