-- ==== Sys2Proof/Machine/Ticks.lean ====
section
/-! DEFINITION. The tick: TICK_START and TICK_CLOSE. -/

namespace Sys2Proof.Machine

/-! ## Analysis at the close of a tick (R19, R68, R86, R117) -/

/-- One group at the close of a tick. When a timed boundary is due, the samples wait for its step (entry 8). -/
def State.closeGroup (s : State) (k : Grp × GroupFields) : State :=
  let (n, g) := k
  let s := (s.eventPush n g).harmonicPush n g
  let d := (s.trackers.get n).close g n s.survey.tick (reference s.ring g)
  let s := s.takeDecision n g d
  if d.tracker.due.isSome then s else s.takeSamples n g

/-- R19: the analysis chain takes the tick, from tick 1 of the survey on. -/
def State.analyse (s : State) : State :=
  if s.survey.analysing ∧ 1 ≤ s.survey.tick then s.survey.setGroups.foldl State.closeGroup s else s

/-! ## TICK_CLOSE -/

/-- TICK_CLOSE, in the order of entry 7. -/
def State.tickClose (s : State) : State :=
  let s := s.setLatches.applyReports.judgeSweeps.formSamples.analyse
  (s.mapRing fun r => { r with sweeps := [], trialDue := false, tickOpen := false }).placeJoin

def execTickClose (s : State) : StepResult := .next (if s.ring.tickOpen then s.tickClose else s)

/-! ## TICK_START -/

/-- Entry 4: what is due at a position. -/
def State.flushPod (s : State) (p : Pos) : State :=
  (((((s.poweringTimeout p).silenceLimit p).offTimerExpiry p).drainWaitTimeout p).cooldownExpiry p).quietPeriod p

/-- Entry 4: the timed steps that are due and have not been taken. -/
def State.flush (s : State) : State :=
  let s := s.placeBoundaries.transactionTimeout
  let s := (indexes 12).foldl State.flushPod s
  (s.downRetry.replyTimeout.retryInterval.pollDelay.heldPoll.printCooldown.heldLimit).mapLink Link.byteGap

/-- One tick begun for the timers of a position. -/
def PodRecord.tick (r : PodRecord) : PodRecord :=
  { r with timer := r.timer.map Timer.tick, quiet := r.quiet.map (· + 1) }

/-- R34, R35: the ticks of the mode are counted in REVERSE, SPLIT and DOWN. -/
def countsTicks : RingMode → Bool
  | .reverse | .split | .down => true
  | .forward | .search => false

/-- One tick begun for the ring: the sweep number, the ticks of the mode and the age of the transaction. -/
def Ring.tick (r : Ring) : Ring :=
  { r with
    tickOpen := true
    sweepNumber := (r.sweepNumber + 1) % 65536
    modeTicks := if countsTicks r.mode then r.modeTicks + 1 else r.modeTicks
    request := r.request.map fun t => { t with age := t.age + 1 } }

/-- R9, R24: a tick begins: the count advances, every timer counts it, and the sweeps of the ring mode are dispatched. -/
def State.tickBegin (s : State) : State :=
  let s := s.mapSurvey fun x => { x with tick := min (x.tick + 1) Config.tickLimit }
  let s := s.mapPods fun x => { x with records := x.records.map PodRecord.tick }
  let s := s.mapPrinter Printer.tick
  let s := s.mapLink fun l => { l with receiver := l.receiver.tick }
  s.mapRing fun r => r.tick.dispatch s.pods

/-- TICK_START: what is still due is taken, and the tick begins; nothing while a tick is open (entry 6). -/
def execTickStart (s : State) : StepResult := .next (if s.ring.tickOpen then s else s.flush.tickBegin)

end Sys2Proof.Machine
end

