-- ==== Sys2Proof/Machine/Resets.lean ====
section
/-! DEFINITION. HARDWARE_RESET, RESTART and CLEAR-COUNTERS, which act on every block. -/

namespace Sys2Proof.Machine

/-- HARDWARE_RESET: every block takes its reset state. The commands that wait and the levels of the feed-drained inputs come
from outside and stay (entries 9, 10). -/
def execHardwareReset (s : State) : StepResult :=
  .next
    { State.reset with
      pending := s.pending
      pods := { Pods.reset with drained := s.pods.drained } }

/-! ## RESTART (R16, R41, R64, R113, R134, R171, R188) -/

/-- R188: the sample and notice queues are emptied away, each frame counted. -/
def Link.emptyAway (l : Link) : Link :=
  { l with
    samples := []
    drops := bump8 l.drops l.samples.length
    sampleDrops := bumpBy l.sampleDrops l.samples.length
    notices := []
    lostNotices := bump8 l.lostNotices l.notices.length
    noticeLosses := bumpBy l.noticeLosses l.notices.length }

/-- R16: Survey Control and the analysis chain. -/
def State.restartSurvey (s : State) : State :=
  let s := s.mapSurvey fun x => { x with analysing := false }
  let s := (s.mapEvents Events.restart).mapHarmonics Harmonics.restart
  if s.survey.state = .closed then s else s.moveSurvey .closed .restart

/-- R40, R41: the transaction in the slot is withdrawn, a host one being answered ABORTED, and a search begins. -/
def State.restartRing (s : State) : State :=
  let s := s.mapPods fun x => { x with joins := [] }
  let s :=
    match s.ring.request with
    | none => s
    | some t => s.endTransaction t .withdrawn
  s.enterSearch .restart

/-- R56, R64: every pod that is not DISABLED is power-cycled. The table of R64 adds COMMANDED to the off-reason set and sets
the last off reason without exempting DISABLED records; the model follows R56 and leaves theirs as they are (DESIGN CHOICE,
unsafe, entry 57). -/
def State.restartPods (s : State) : State :=
  let s := s.mapPods fun x =>
    { x with records := x.records.map fun r => { r with silence := 0, powering := 0, mark := false } }
  (indexes 12).foldl (fun s p => if (s.pod p).state = .disabled then s else s.cyclePod p) s

/-- R16, R83, R188: RESTART, its notices in the order of entry 30. A boundary already decided is announced in full first, and
its notices are emptied away with the rest (entry 8). -/
def restart (s : State) : Answer :=
  accept ((s.placeBoundaries.mapLink Link.emptyAway).restartSurvey.restartRing.restartPods.cancelAll) []

def execRestart (tag : Byte) (s : State) : StepResult := handle tag .restart restart s

/-! ## CLEAR-COUNTERS (R181) -/

/-- R37, R41: the ring's counters and scan times. -/
def Ring.clearCounters (r : Ring) : Ring :=
  { r with scanCurrent := none, scanMax := 0, scanMin := none, lost := 0, switches := 0 }

/-- R181: the four link counters. -/
def Link.clearCounters (l : Link) : Link := { l with linkErrors := 0, overruns := 0, sampleDrops := 0, noticeLosses := 0 }

/-- R128: the exceedance counts of a group. -/
def GroupSummary.clearCounts (x : GroupSummary) : GroupSummary :=
  { x with cells := x.cells.map fun l => l.map fun c => { c with exceedances := 0 } }

/-- R181: every counter of every block. -/
def State.clearCounters (s : State) : State :=
  let s := (s.mapLink Link.clearCounters).mapRing Ring.clearCounters
  let s := s.mapPods fun x => { x with records := x.records.map fun r => { r with history := 0#16, reasons := 0#8 } }
  let s := s.mapTrackers fun x => x.map fun k => { k with flywheelEntries := 0 }
  let s := s.mapHarmonics fun x => { x with groups := x.groups.map fun k => { k with summary := k.summary.clearCounts } }
  s.mapNotes fun x => { x with markLost := 0 }

def clearCounters (s : State) : Answer := accept s.clearCounters []

def execClearCounters (tag : Byte) (s : State) : StepResult := handle tag .clearCounters clearCounters s

end Sys2Proof.Machine
end

