-- ==== Sys2Proof/Machine/Dispatch.lean ====
section
/-! DEFINITION. The dispatch of a command to its meaning: one arm per constructor. -/

namespace Sys2Proof.Machine

def exec (i : Instr) (s : State) : Host.Outcome State Fault Refusal :=
  match i with
  | .hardwareReset => Sys2Proof.Machine.execHardwareReset s
  | .tickStart => Sys2Proof.Machine.execTickStart s
  | .sweepReturn port frame scan => Sys2Proof.Machine.execSweepReturn port frame scan s
  | .tickClose => Sys2Proof.Machine.execTickClose s
  | .trialSweep => Sys2Proof.Machine.execTrialSweep s
  | .downRetry => Sys2Proof.Machine.execDownRetry s
  | .transactionTimeout => Sys2Proof.Machine.execTransactionTimeout s
  | .poweringTimeout p => Sys2Proof.Machine.execPoweringTimeout p s
  | .silenceLimit p => Sys2Proof.Machine.execSilenceLimit p s
  | .offTimerExpiry p => Sys2Proof.Machine.execOffTimerExpiry p s
  | .feedDrained p level => Sys2Proof.Machine.execFeedDrained p level s
  | .drainWaitTimeout p => Sys2Proof.Machine.execDrainWaitTimeout p s
  | .cooldownExpiry p => Sys2Proof.Machine.execCooldownExpiry p s
  | .quietPeriod p => Sys2Proof.Machine.execQuietPeriod p s
  | .timedBoundary g => Sys2Proof.Machine.execTimedBoundary g s
  | .forcedBoundary g => Sys2Proof.Machine.execForcedBoundary g s
  | .wheelBoundary g => Sys2Proof.Machine.execWheelBoundary g s
  | .sagRecordEmit => Sys2Proof.Machine.execSagRecordEmit s
  | .intervalRecordEmit => Sys2Proof.Machine.execIntervalRecordEmit s
  | .noteRecordEmit => Sys2Proof.Machine.execNoteRecordEmit s
  | .frameSend => Sys2Proof.Machine.execFrameSend s
  | .inboundFrame bytes => Sys2Proof.Machine.execInboundFrame bytes s
  | .byteGapTimeout => Sys2Proof.Machine.execByteGapTimeout s
  | .badDirective tag payload => Sys2Proof.Machine.execBadDirective tag payload s
  | .loadChannel tag index fields => Sys2Proof.Machine.execLoadChannel tag index fields s
  | .loadGroup tag index fields => Sys2Proof.Machine.execLoadGroup tag index fields s
  | .loadProfile tag index fields => Sys2Proof.Machine.execLoadProfile tag index fields s
  | .loadBins tag index fields => Sys2Proof.Machine.execLoadBins tag index fields s
  | .loadPod tag index fields => Sys2Proof.Machine.execLoadPod tag index fields s
  | .loadTemplate tag index fields => Sys2Proof.Machine.execLoadTemplate tag index fields s
  | .loadPrinter tag fields => Sys2Proof.Machine.execLoadPrinter tag fields s
  | .loadLink tag grant => Sys2Proof.Machine.execLoadLink tag grant s
  | .readTable tag table index => Sys2Proof.Machine.execReadTable tag table index s
  | .openSurvey tag fields => Sys2Proof.Machine.execOpenSurvey tag fields s
  | .closeSurvey tag => Sys2Proof.Machine.execCloseSurvey tag s
  | .restart tag => Sys2Proof.Machine.execRestart tag s
  | .setIdentity tag fields => Sys2Proof.Machine.execSetIdentity tag fields s
  | .addNote tag fields => Sys2Proof.Machine.execAddNote tag fields s
  | .amendNote tag note fields => Sys2Proof.Machine.execAmendNote tag note fields s
  | .withdrawNote tag note => Sys2Proof.Machine.execWithdrawNote tag note s
  | .mark tag => Sys2Proof.Machine.execMark tag s
  | .readNote tag which => Sys2Proof.Machine.execReadNote tag which s
  | .submitPrint tag fields => Sys2Proof.Machine.execSubmitPrint tag fields s
  | .cancelPrint tag job => Sys2Proof.Machine.execCancelPrint tag job s
  | .podRead tag position parameter => Sys2Proof.Machine.execPodRead tag position parameter s
  | .podWrite tag position parameter value => Sys2Proof.Machine.execPodWrite tag position parameter value s
  | .podCycle tag position => Sys2Proof.Machine.execPodCycle tag position s
  | .podRelease tag position => Sys2Proof.Machine.execPodRelease tag position s
  | .readKit tag => Sys2Proof.Machine.execReadKit tag s
  | .readSnapshot tag => Sys2Proof.Machine.execReadSnapshot tag s
  | .clearSnapshot tag => Sys2Proof.Machine.execClearSnapshot tag s
  | .clearCounters tag => Sys2Proof.Machine.execClearCounters tag s
  | .clearPeaks tag group => Sys2Proof.Machine.execClearPeaks tag group s
  | .readSag tag sag => Sys2Proof.Machine.execReadSag tag sag s
  | .printerStatus status => Sys2Proof.Machine.execPrinterStatus status s
  | .printReplyTimeout => Sys2Proof.Machine.execPrintReplyTimeout s
  | .printRetryInterval => Sys2Proof.Machine.execPrintRetryInterval s
  | .printPollDelay => Sys2Proof.Machine.execPrintPollDelay s
  | .heldPoll => Sys2Proof.Machine.execHeldPoll s
  | .printCooldownExpiry => Sys2Proof.Machine.execPrintCooldownExpiry s
  | .heldLimitExpiry => Sys2Proof.Machine.execHeldLimitExpiry s

end Sys2Proof.Machine
end

