-- ==== Sys2Proof/Safety.lean ====
section
/-! DEFINITION. What the statements are stated in: how a directive is taken and answered, when a channel is fresh, and the
invariants every step keeps. -/

namespace Sys2Proof.Machine

/-- R177: the handler takes the directive `d` with its tag, leaving the state `u`: a reply entry is free, and the directive
stands at the head of the directive queue, or the queue is empty and the directive is taken as it arrives (entry 3). -/
def Takes (s : State) (tag : Byte) (d : Directive) (u : State) : Prop :=
  s.link.replies.length + (if s.link.reserved.isSome then 1 else 0) < 8 ∧
  ((s.link.directives = [] ∧ u = s) ∨
   ∃ payload rest, s.link.directives = ⟨tag, payload⟩ :: rest ∧ parseDirective payload = some d ∧
     u = { s with link := { s.link with directives := rest } })

/-- R179: the state in which a reply has become full: it carries the overrun count, which returns to 0. -/
def replied (tag code : Byte) (r : ResultCode) (data : List Byte) (s : State) : State :=
  { s with link :=
    { s.link with
      replies := s.link.replies ++ [⟨tag, code, r, data, s.link.overrun⟩]
      overrun := 0 } }

/-- The record of one position replaced. -/
def withRecord (p : Pos) (r : PodRecord) (s : State) : State :=
  { s with pods := { s.pods with records := s.pods.records.set p r } }

/-- R61: a POD notice offered for the record of a position as it stands. -/
def podNoticed (p : Pos) (previous : PodState) (cause : PodCause) (s : State) : State :=
  s.offer
    (.pod p previous (s.pods.records.get p).state cause (s.pods.records.get p).retry (summaryFlags s.pods s.ring))

/-- R26: the slot of a position that every returned regular or trial sweep over it brought back, no regular sweep of the
tick being lost. The frames of one tick carry identical slots (R22), but for a pod that comes up between two of them (entry
63), which is left out here. -/
def SlotBack (r : Ring) (p : Pos) (w : Slot) : Prop :=
  (∀ x ∈ r.sweeps, x.kind = .regular → x.returned.isSome = true) ∧
  (∃ x ∈ r.sweeps, x.kind ≠ .probe ∧ p ∈ x.path) ∧
  (∀ x ∈ r.sweeps, x.kind ≠ .probe → p ∈ x.path → ∃ slots, x.returned = some slots ∧ slots[p.val]? = some w)

/-- R27: the slot of a position that a returned regular or trial sweep over it brought back, every returned one alike. Another
sweep of the tick may be lost. The frames of one tick carry identical slots (R22), but for a pod that comes up between two of
them (entry 63), which is left out here. -/
def SlotSeen (r : Ring) (p : Pos) (w : Slot) : Prop :=
  (∃ x ∈ r.sweeps, x.kind ≠ .probe ∧ p ∈ x.path ∧ x.returned ≠ none) ∧
  (∀ x ∈ r.sweeps, x.kind ≠ .probe → p ∈ x.path → ∀ slots, x.returned = some slots → slots[p.val]? = some w)

/-- R26: no returned regular or trial sweep brought back a present slot of the position. -/
def NoSlot (r : Ring) (p : Pos) : Prop :=
  ∀ x ∈ r.sweeps, x.kind ≠ .probe → p ∈ x.path →
    ∀ slots, x.returned = some slots → ∀ w, slots[p.val]? = some w → w.present = false

/-- R34: a trial sweep of the tick has returned. -/
def TrialBack (r : Ring) : Prop := ∃ x ∈ r.sweeps, x.kind = .trial ∧ x.returned.isSome = true

/-- R39, R47, R50: the transaction that a waiting join becomes under a number. The join write of parameter 5 carries the
position; a read carries the value 0 (entry 53). -/
def joinTransaction (j : JoinTransaction) (number : Nat) : Transaction :=
  if j.parameter = 5 then ⟨j.position, number, .joinWrite, 5, j.position.val + 1, .join, 0⟩
  else ⟨j.position, number, .joinRead, j.parameter, 0, .join, 0⟩

/-- R39: the state in which the free slot has taken the first of the joins that wait, under the next transaction number. -/
def joinPlaced (s : State) : State :=
  match s.pods.joins with
  | [] => s
  | j :: rest =>
    let number := (s.ring.lastTransaction + 1) % 256
    { s with
      pods := { s.pods with joins := rest }
      ring := { s.ring with request := some (joinTransaction j number), lastTransaction := number } }

/-- R39: a free slot takes the first of the joins that wait; a taken one keeps its transaction. -/
def joinFilled (s : State) : State := if s.ring.request = none then joinPlaced s else s

/-- R47, R49, R50: the joins of a position withdrawn, those that wait and the one in the slot, and reads of the given parameters
queued in their place; then the slot, if it is free, takes the first join that waits. -/
def joinsAnew (p : Pos) (reads : List Nat) (s : State) : State :=
  joinFilled
    { s with
      pods :=
        { s.pods with joins :=
            reads.foldl (fun l k => queueJoin ⟨p, k⟩ l) (s.pods.joins.filter fun j => decide (j.position ≠ p)) }
      ring :=
        { s.ring with request := s.ring.request.filter fun x => decide (x.client ≠ .join) || decide (x.target ≠ p) } }

/-! ## Table loads (R5) -/

/-- R5: how a load of an indexed table is decided: lock, index, then the entry's first fault; a load without one is taken.
`answer r data` says that it is refused so. -/
def LoadFollows (n : Nat) (locked : Prop) (k : Nat) (fault : Option (ResultCode × Nat))
    (answer : ResultCode → List Byte → Prop) (taken : Fin n → Prop) : Prop :=
  (locked → answer .locked []) ∧
  (¬locked → k = 0 ∨ n < k → answer .badValue [0x00]) ∧
  (∀ i : Fin n, ¬locked → k = i.val + 1 → ∀ r field, fault = some (r, field) → answer r [BitVec.ofNat 8 field]) ∧
  (∀ i : Fin n, ¬locked → k = i.val + 1 → fault = none → taken i)

/-- R1, R2: the first fault of a channel entry. -/
def channelFault (c : ChannelFields) : Option (ResultCode × Nat) :=
  if ¬(1 ≤ c.kind ∧ c.kind ≤ 3) then some (.badValue, 1)
  else if c.kind ≠ 3 ∧ ¬(1 ≤ c.range ∧ c.range ≤ 6) then some (.badValue, 2)
  else if c.kind ≠ 3 ∧ ¬(1000 ≤ c.nom ∧ c.nom ≤ 32767) then some (.badValue, 3)
  else if c.kind ≠ 3 ∧ ¬(1 ≤ c.declared ∧ c.declared ≤ 65535) then some (.badValue, 4)
  else if ¬(c.raw = 1 ∨ c.raw = 2) then some (.badValue, 5)
  else if ¬(c.analyse = 1 ∨ c.analyse = 2) then some (.badValue, 6)
  else if ¬(c.harmonic = 1 ∨ c.harmonic = 2) then some (.badValue, 7)
  else if c.kind = 1 ∧ 5 ≤ c.range then some (.badTable, 2)
  else if c.kind = 3 ∧ c.raw = 1 then some (.badTable, 5)
  else if c.kind = 3 ∧ c.analyse = 1 then some (.badTable, 6)
  else if c.harmonic = 1 ∧ c.analyse = 2 then some (.badTable, 7)
  else none

/-- R3, R4: the first fault of a group entry. -/
def groupFault (g : GroupFields) : Option (ResultCode × Nat) :=
  if ¬(1 ≤ g.members.length ∧ g.members.length ≤ 6 ∧ ∀ c ∈ g.members, 1 ≤ c ∧ c ≤ 48) then some (.badValue, 1)
  else if ¬(1 ≤ g.profile ∧ g.profile ≤ 8) then some (.badValue, 2)
  else if ¬(∀ b ∈ g.bins, 1 ≤ b ∧ b ≤ 4) then some (.badValue, 3)
  else if ¬(g.nominal = 50 ∨ g.nominal = 60) then some (.badValue, 4)
  else if ¬(1 ≤ g.refA ∧ g.refA ≤ 48) then some (.badValue, 5)
  else if ¬(∀ b ∈ g.refB, 1 ≤ b ∧ b ≤ 48) then some (.badValue, 6)
  else if 255 < g.k then some (.badValue, 7)
  else if 3 < g.f then some (.badValue, 8)
  else if 127 < g.m then some (.badValue, 9)
  else if 64 < g.w then some (.badValue, 10)
  else if ¬(g.d = 0 ∨ g.d = 2 ∨ g.d = 4 ∨ g.d = 8) then some (.badValue, 11)
  else if ¬(1 ≤ g.flywheel ∧ g.flywheel ≤ 255) then some (.badValue, 12)
  else if ¬g.members.Nodup then some (.badTable, 1)
  else if g.refA ∉ g.members then some (.badTable, 5)
  else if ∃ b ∈ g.refB, b ∉ g.members ∨ b = g.refA then some (.badTable, 6)
  else if g.k ≠ 0 ∧ g.refB = none then some (.badTable, 7)
  else none

/-- R84, R85: the first fault of a profile. -/
def profileFault (p : ProfileFields) : Option (ResultCode × Nat) :=
  if ¬(1 ≤ p.intEnter ∧ p.intEnter ≤ 65535) then some (.badValue, 1)
  else if ¬(1 ≤ p.intExit ∧ p.intExit ≤ 65535) then some (.badValue, 2)
  else if ¬(1 ≤ p.sagEnter ∧ p.sagEnter ≤ 65535) then some (.badValue, 3)
  else if ¬(1 ≤ p.sagExit ∧ p.sagExit ≤ 65535) then some (.badValue, 4)
  else if ¬(1 ≤ p.swellExit ∧ p.swellExit ≤ 65535) then some (.badValue, 5)
  else if ¬(1 ≤ p.swellEnter ∧ p.swellEnter ≤ 65535) then some (.badValue, 6)
  else if 8 < p.pre then some (.badValue, 7)
  else if 16 < p.post then some (.badValue, 8)
  else if ¬(1 ≤ p.body ∧ p.body ≤ 64) then some (.badValue, 9)
  else if 10000 < p.burstMs then some (.badValue, 10)
  else if ¬(1 ≤ p.maxSeconds ∧ p.maxSeconds ≤ 600) then some (.badValue, 11)
  else if p.intExit ≤ p.intEnter then some (.badTable, 2)
  else if p.sagEnter < p.intExit then some (.badTable, 3)
  else if p.sagExit ≤ p.sagEnter then some (.badTable, 4)
  else if 10000 < p.sagExit then some (.badTable, 4)
  else if p.swellExit < 10000 then some (.badTable, 5)
  else if p.swellEnter ≤ p.swellExit then some (.badTable, 6)
  else none

/-- R114, R115: the first fault of a bin set. -/
def binFault (b : BinFields) : Option (ResultCode × Nat) :=
  if ¬(1 ≤ b.orders.length ∧ b.orders.length ≤ 16 ∧ ∀ h ∈ b.orders, 2 ≤ h ∧ h ≤ 50) then some (.badValue, 1)
  else if ¬(1 ≤ b.limits.length ∧ b.limits.length ≤ 16 ∧ ∀ x ∈ b.limits, x ≤ 65535) then some (.badValue, 2)
  else if ¬(b.blockLength = 8 ∨ b.blockLength = 10 ∨ b.blockLength = 12 ∨ b.blockLength = 16) then some (.badValue, 3)
  else if 12 < b.exponent then some (.badValue, 4)
  else if 32767 < b.minFund then some (.badValue, 5)
  else if ¬b.orders.Pairwise (· < ·) then some (.badTable, 1)
  else if b.limits.length ≠ b.orders.length then some (.badTable, 2)
  else none

/-- R42: the first fault of a pod table entry. -/
def podFault (p : PodFields) : Option (ResultCode × Nat) :=
  if ¬(p.enable = 1 ∨ p.enable = 2) then some (.badValue, 1)
  else if ¬(1 ≤ p.typeCode ∧ p.typeCode ≤ 6) then some (.badValue, 2)
  else if ¬(∀ n ∈ p.silence, 2 ≤ n ∧ n ≤ 255) then some (.badValue, 3)
  else if 4 < p.retry then some (.badValue, 4)
  else if ¬(100 ≤ p.offTime ∧ p.offTime ≤ 10000) then some (.badValue, 5)
  else if 600 < p.cooldown then some (.badValue, 6)
  else if 3 < p.quiet then some (.badValue, 7)
  else none

/-- R152, R153: the first fault of a template: its item count, then the place of the first section that cannot be read or
is out of range. -/
def templateFault (t : TemplateFields) : Option (ResultCode × Nat) :=
  if ¬(1 ≤ t.count ∧ t.count ≤ 16) then some (.badValue, 1)
  else (t.sections.findIdx? fun x => (sectOf x).isNone).map fun i => (.badValue, i + 1)

/-- R154: the first fault of the printer settings. -/
def printerFault (p : PrinterFields) : Option (ResultCode × Nat) :=
  if 4 < p.retryLimit then some (.badValue, 1)
  else if ¬(100 ≤ p.retryMs ∧ p.retryMs ≤ 5000) then some (.badValue, 2)
  else if 600 < p.cooldown then some (.badValue, 3)
  else if ¬(40 ≤ p.hotLimit ∧ p.hotLimit ≤ 90) then some (.badValue, 4)
  else if ¬(30 ≤ p.resumeLimit ∧ p.resumeLimit ≤ 85) then some (.badValue, 5)
  else if ¬(1 ≤ p.heldMinutes ∧ p.heldMinutes ≤ 60) then some (.badValue, 6)
  else if p.hotLimit < p.resumeLimit + 5 then some (.badTable, 5)
  else none

/-! ## OPEN-SURVEY (R10 to R12) -/

/-- R10: the first operand of OPEN-SURVEY out of range, by its place. -/
def openFault (f : OpenFields) : Option Nat :=
  if ¬(1 ≤ f.number ∧ f.number ≤ 65535) then some 1
  else if 4294967295 < f.wall then some 2
  else if ¬(∀ t ∈ f.site, 1 ≤ t.length ∧ t.length ≤ 8) then some 3
  else if ¬(∀ t ∈ f.crew, 1 ≤ t.length ∧ t.length ≤ 4) then some 4
  else none

/-- A channel number names a set entry that satisfies a test. -/
def ChannelIs (x : Survey) (test : MappedChannel → Prop) (c : Nat) : Prop :=
  ∃ i m, ofNumber 48 c = some i ∧ x.channels.get i = some (.mapped m) ∧ test m

/-- R11: the tables pass the cross-table checks of OPEN-SURVEY. -/
def Openable (s : State) : Prop :=
  (∀ n g, s.survey.groups.get n = some g →
    (∀ c ∈ g.members, ChannelIs s.survey (fun m => m.analyse = true) c) ∧
    (1 ≤ (s.survey.voltageMembers g).length ∧ (s.survey.voltageMembers g).length ≤ 4) ∧
    ChannelIs s.survey (fun m => m.kind = .voltage) g.refA ∧
    (∀ b, g.refB = some b → ChannelIs s.survey (fun m => m.kind = .voltage) b) ∧
    (∃ i p, ofNumber 8 g.profile = some i ∧ s.events.profiles.get i = some p) ∧
    (∀ b, g.bins = some b → ∃ i x, ofNumber 4 b = some i ∧ s.harmonics.binSets.get i = some x)) ∧
  (∀ n g k h, s.survey.groups.get n = some g → s.survey.groups.get k = some h → n ≠ k → ∀ c ∈ g.members, c ∉ h.members)

/-- The set entry of a channel number. -/
def entryOf (x : Survey) (c : Nat) : Option ChannelEntry := (ofNumber 48 c).bind x.channels.get

/-- R1, R2: the entry of a channel number is mapped with ANALYSE set to YES. -/
def analysedEntry (x : Survey) (c : Nat) : Bool := match entryOf x c with | some (.mapped m) => m.analyse | _ => false

/-- R1: the entry of a channel number is mapped as VOLTAGE. -/
def voltageEntry (x : Survey) (c : Nat) : Bool :=
  match entryOf x c with | some (.mapped m) => decide (m.kind = .voltage) | _ => false

/-- R11: the item of the first check that a set group fails, in the order of the rule's table, as table code and index. -/
def brokenItem (s : State) (n : Grp) (g : GroupFields) : Option (Nat × Nat) :=
  match g.members.find? (fun c => (entryOf s.survey c).isNone) with
  | some c => some (1, c)
  | none =>
    match g.members.find? (fun c => !analysedEntry s.survey c) with
    | some c => some (1, c)
    | none =>
      let volts := g.members.countP (voltageEntry s.survey)
      if volts = 0 ∨ 4 < volts then some (2, n.val + 1)
      else if voltageEntry s.survey g.refA = false ∨ g.refB.any (fun b => !voltageEntry s.survey b) = true then
        some (2, n.val + 1)
      else if (ofNumber 8 g.profile).bind s.events.profiles.get = none then some (3, g.profile)
      else
        match g.bins with
        | some b => if (ofNumber 4 b).bind s.harmonics.binSets.get = none then some (4, b) else none
        | none => none

/-- R11: the first item that fails: group by group in ascending number, then the lowest channel of two set groups. -/
def firstBroken (s : State) : Option (Nat × Nat) :=
  match (indexes 8).findSome? (fun n => (s.survey.groups.get n).bind (brokenItem s n)) with
  | some item => some item
  | none =>
    ((List.range 48).find? fun c =>
      decide (2 ≤ (indexes 8).countP fun n => (s.survey.groups.get n).any fun g => g.members.contains (c + 1))).map
      fun c => (1, c + 1)

/-- R12: the pages the set groups reserve. -/
def pagesNeeded (s : State) : Nat :=
  ((indexes 8).map fun n =>
    match s.survey.groups.get n with
    | none => 0
    | some g =>
      match (ofNumber 8 g.profile).bind s.events.profiles.get with
      | none => 0
      | some p => (p.pre * g.members.length + 3) / 4).sum

/-! ## The off sequence and the flywheel -/

/-- R54: the record of a pod whose drained input is asserted in DRAIN-WAIT, and the cause of its POD notice, by the sequence
kind and the entry's retry limit and cooldown. -/
def afterDrain (e : PodEntry) (r : PodRecord) (kind : SequenceKind) : PodRecord × PodCause :=
  if kind ≠ .policy then ({ r with state := .powering, powering := 0, timer := none }, .feedOn)
  else if r.retry < e.retry then
    ({ r with state := .powering, retry := r.retry + 1, powering := 0, timer := none }, .feedOn)
  else if 0 < e.cooldown then ({ r with state := .cooldown, timer := some ⟨0, e.cooldown * 10240⟩ }, .retryLimit)
  else ({ r with state := .latched, timer := none }, .retryLimit)

/-- R77: the tracker that enters LOST at a boundary already placed and counted. -/
def lostAt (g : GroupFields) (y : Tracker) : Tracker :=
  let nominal := if g.nominal = 60 then 1365 else 1638
  { y with
    state := .lost
    period := nominal
    mask := g.m * nominal / 2048
    limit := nominal * (128 + g.w) / 2048
    residue := nominal % 16
    nextLength := nominal / 16
    anchor := none
    intervals := []
    accepted := 0
    flywheelCount := 0 }

/-- R68: the decision tick at the close of tick `t`: debounce 0 acts as 1. -/
def decisionTick (g : GroupFields) (t : Nat) : Nat := t - (if g.d = 0 then 0 else g.d - 1)

/-- The state after a command that answers a next state. -/
def ran (c : Instr) (s : State) : State :=
  match exec c s with
  | .next t => t
  | _ => s

/-- R83: the state in which every boundary already decided has been placed and announced in full, by rising group (entry
8). -/
def boundariesPlaced (s : State) : State :=
  (indexes 8).foldl (fun s n => ran (.wheelBoundary n) (ran (.forcedBoundary n) (ran (.timedBoundary n) s))) s

/-! ## The tick -/

/-- The steps that are taken once they are due, in the order in which TICK_START takes what is left of them (entry 4). -/
def timedCommands : List Instr :=
  (indexes 8).flatMap (fun n => [.timedBoundary n, .forcedBoundary n, .wheelBoundary n]) ++ [.transactionTimeout] ++
  (indexes 12).flatMap (fun p =>
    [.poweringTimeout p, .silenceLimit p, .offTimerExpiry p, .drainWaitTimeout p, .cooldownExpiry p, .quietPeriod p]) ++
  [.downRetry, .printReplyTimeout, .printRetryInterval, .printPollDelay, .heldPoll, .printCooldownExpiry,
   .heldLimitExpiry, .byteGapTimeout]

/-- The state in which every timed step that is due has been taken (entry 4). -/
def dueTaken (s : State) : State := timedCommands.foldl (fun s c => ran c s) s

/-- R54, R55: a pod record one tick later: its off, drain or cooldown timer and its quiet timer. -/
def agedPod (r : PodRecord) : PodRecord :=
  { r with timer := r.timer.map fun x => ⟨x.elapsed + 1, x.length⟩, quiet := r.quiet.map (· + 1) }

/-- R166 to R168: the print exchange one tick later. -/
def agedExchange : Exchange → Exchange
  | .idle => .idle
  | .message e => .message (e + 1)
  | .poll e => .poll (e + 1)
  | .heldPoll e => .heldPoll (e + 1)
  | .cancelFeed e => .cancelFeed (e + 1)
  | .pollGap e => .pollGap (e + 1)
  | .heldGap e => .heldGap (e + 1)
  | .retryWait x => .retryWait ⟨x.elapsed + 1, x.length⟩
  | .cooldown x => .cooldown ⟨x.elapsed + 1, x.length⟩

/-- R166 to R169: the printer one tick later: its exchange, and the held count of the job PRINTING or HELD. -/
def agedPrinter (x : Printer) : Printer :=
  { x with
    exchange := agedExchange x.exchange
    jobs := x.jobs.map fun j => if j.state = .queued then j else { j with held := j.held + 1 } }

/-- R175: the receiver one tick later: the gap since the last byte of a frame in hand. No time limit runs between the two sync
bytes (entry 55). -/
def agedReceiver : Receiver → Receiver
  | .hunting armed => .hunting armed
  | .inFrame body gap => .inFrame body (gap + 1)

/-! ## The analysis chain -/

/-- R80: what the boundary before last holds when a boundary follows `b`: none after the origin, which is no second
predecessor (entry 50). -/
def secondOf (b : LastBoundary) : Option (Nat × Edge) :=
  if b.kind = .origin then none else some (b.tick, b.edge)

/-- R68, R79, R80: the boundary a decision announces at tick `i` after the last one `b` and the one before it: its sign, kind
and resync mark, the length and flags of the half-cycle it ends, and the cycle it closes, which a rising boundary does after a
falling one after a rising one. `y` is the tracker after it. -/
def boundaryAt (i : Nat) (e : Edge) (kind : BoundaryKind) (resync : Bool) (b : LastBoundary) (before : Option (Nat × Edge))
    (y : Tracker) : Boundary :=
  let crossing (k : BoundaryKind) : Bool := decide (k = .crossing)
  let wheeled (k : BoundaryKind) : Bool := decide (k = .forced) || decide (k = .wheel)
  let timed (k : BoundaryKind) : Bool := decide (k = .timed) || decide (k = .origin)
  { tick := i
    edge := e
    kind := kind
    resync := resync
    length := some (i - b.tick)
    flags :=
      ⟨crossing b.kind && crossing kind, wheeled b.kind || wheeled kind, timed b.kind || timed kind, resync,
        decide (i - b.tick < 39)⟩
    cycleStart :=
      if e = .rising ∧ b.edge = .falling then
        match before with
        | some (t, .rising) => some t
        | _ => none
      else none
    state := y.state
    period := y.period }

/-- R69: the half-period from the last 2^F entries of a history, in sixteenths. -/
def periodOf (f : Nat) (history : List Nat) : Nat := 16 * (history.drop (history.length - 2 ^ f)).sum / 2 ^ f

/-- R70: a tracker whose mask and window limit follow from its half-period. -/
def windowed (g : GroupFields) (x : Tracker) : Tracker :=
  { x with mask := g.m * x.period / 2048, limit := x.period * (128 + g.w) / 2048 }

/-- R71: a tracker with the next timed length and the residue carried, from its half-period. -/
def scheduled (x : Tracker) : Tracker :=
  { x with nextLength := (x.residue + x.period) / 16, residue := (x.residue + x.period) % 16 }

/-- R66 to R68: what a tracker senses at the close of tick `t`: the tracker, and the sign of the crossing it confirms. A
debounce of 0 acts as 1. -/
def sensedAt (g : GroupFields) (t : Nat) (r : Ring) (x : Tracker) : Tracker × Option Edge :=
  let a := (r.latchOf g.refA).value
  let v : Int := g.refB.elim a fun b => a - ((g.k : Int) * (r.latchOf b).value).tdiv 128
  let sign : Sign := if v < 0 then .negative else .nonNegative
  let began := if x.run = 0 then t else x.runStart
  if x.settled = none then ({ x with settled := some sign, run := 0 }, none)
  else if x.settled = some sign then ({ x with run := 0 }, none)
  else if x.run + 1 < (if g.d = 0 then 1 else g.d) then ({ x with run := x.run + 1, runStart := began }, none)
  else ({ x with settled := some sign, run := 0, runStart := began }, some (if v < 0 then .falling else .rising))

/-- R86 step 1, R87, R91, R104: a boundary announced to the Event Detector. It judges the half-cycle of each voltage member,
whose sums begin anew, moves the event machine, and moves the half-cycle buffer into the history ring. The origin ends no
half-cycle. -/
def eventTaken (n : Grp) (g : GroupFields) (b : Boundary) (s : State) : State :=
  match b.length, (ofNumber 8 g.profile).bind s.events.profiles.get with
  | some samples, some p =>
    let x := s.events.groups.get n
    let voltage := s.survey.voltageMembers g
    let judged := (voltage.zip x.members).map fun k => evaluate p b samples k.1 k.2
    let t :=
      machineBoundary ⟨n, g.members, voltage⟩ ⟨p, g.members.length, judged, b, samples⟩
        ({ x with members := judged.map fun e => ⟨0, 0, false, e.after⟩ }, s.events)
    { s with events := { t.2 with groups := t.2.groups.set n (t.1.moveRing p.pre samples) } }
  | _, _ => s

/-- R79, R86, R118: a boundary announced, on which the Event Detector and the Harmonic Analyser act. R68 has the two act
independently; that the former acts first is the model's choice (entry 31). -/
def announced (n : Grp) (g : GroupFields) (b : Boundary) (s : State) : State :=
  (eventTaken n g b s).harmonicBoundary n g b

/-- R86, R117: a delay line with the row of a close entered; it holds the last D + 1 rows. -/
def lineWith (g : GroupFields) (row : List Sample) (line : List (List Sample)) : List (List Sample) :=
  (line ++ [row]).drop (line.length - (g.d - 1))

/-- R86, R117: the row of tick t − D of a delay line, once the line holds it. -/
def rowDue (g : GroupFields) (line : List (List Sample)) : Option (List Sample) :=
  if line.length = g.d - 1 + 1 then line.head? else none

/-- R86, R117: the latches of the tick have entered the delay lines of a group. -/
def latchesEntered (n : Grp) (g : GroupFields) (s : State) : State :=
  let x := s.events.groups.get n
  let y := s.harmonics.groups.get n
  let all := { x with delay := lineWith g (g.members.map s.ring.latchOf) x.delay }
  let analysed := { y with delay := lineWith g ((s.survey.analysed g).map s.ring.latchOf) y.delay }
  { s with
    events := { s.events with groups := s.events.groups.set n all }
    harmonics :=
      if s.analysedBins g = none then s.harmonics
      else { s.harmonics with groups := s.harmonics.groups.set n analysed } }

/-- R86 step 2, R117: the samples of tick t − D of a group have been taken, once the origin has been announced: into the sums
and the half-cycle buffer, and into the cycle buffer, which holds 256 and is marked when one more comes. -/
def samplesTaken (n : Grp) (g : GroupFields) (s : State) : State :=
  if (s.trackers.get n).last = none then s
  else
    let x := s.events.groups.get n
    let y := s.harmonics.groups.get n
    let longer (row : List Sample) : GroupHarmonics :=
      if y.buffer.length < 256 then { y with buffer := y.buffer ++ [row] } else { y with overlong := true }
    { s with
      events :=
        match rowDue g x.delay with
        | none => s.events
        | some row => { s.events with groups := s.events.groups.set n (x.takeRow (s.survey.voltageMembers g) row) }
      harmonics :=
        match s.analysedBins g, rowDue g y.delay with
        | some _, some row => { s.harmonics with groups := s.harmonics.groups.set n (longer row) }
        | _, _ => s.harmonics }

/-- R19, R68, R86, R117: the analysis of a group at the close of a tick. The latches enter the delay lines; the tracker senses,
and decides tick t − D from tick 1 on, with its notices; a boundary it places is announced; then the samples of that tick are
taken, unless a boundary is due, whose step takes them (entry 8). -/
def groupAnalysed (s : State) (n : Grp) : State :=
  match s.survey.groups.get n with
  | none => s
  | some g =>
    let u := latchesEntered n g s
    let x := sensedAt g s.survey.tick s.ring (s.trackers.get n)
    let answer : Decision :=
      if g.d ≤ s.survey.tick then x.1.decideAt g n (decisionTick g s.survey.tick) x.2 else ⟨x.1, none, []⟩
    let v : State :=
      { u with
        trackers := u.trackers.set n answer.tracker
        link := answer.notices.foldl (fun l b => l.offer ⟨s.survey.tick, b⟩) u.link }
    let w := answer.boundary.elim v fun b => announced n g b v
    if answer.tracker.due = none then samplesTaken n g w else w

/-! ## Sample blocks (R184 to R186) -/

/-- R185: the frame of portion `i`, counted from 0, of a closed block. -/
def portionOf (b : Block) (i drops : Nat) : SampleFrame where
  first := b.first
  ticks := b.rows.length
  portion := i + 1
  portions := (b.channels.length + 6) / 7
  drops := drops
  channels := (b.channels.drop (i * 7)).take 7
  gaps := (List.range ((b.channels.drop (i * 7)).take 7).length).map fun j =>
    b.rows.countP fun row => (row.getD (i * 7 + j) (0, false)).2
  samples := b.rows.map fun row => ((row.drop (i * 7)).take 7).map fun k => k.1

/-- R184 to R186: what the closing of a block in formation does to the sample queue and its counts: a frame for each portion
while fewer than 32 wait, the first taking the drop count, and each further one dropped and counted. -/
def BlockClosed (block : Option Block) (l m : Link) : Prop :=
  m.block = none ∧
  (block = none → m.samples = l.samples ∧ m.drops = l.drops ∧ m.sampleDrops = l.sampleDrops) ∧
  ∀ b, block = some b →
    let portions := (b.channels.length + 6) / 7
    let taken := min portions (32 - l.samples.length)
    m.samples = l.samples ++ (List.range taken).map (fun i => portionOf b i (if i = 0 then l.drops else 0)) ∧
    (taken = portions → m.sampleDrops = l.sampleDrops ∧ m.drops = (if portions = 0 then l.drops else 0)) ∧
    (taken < portions →
      m.sampleDrops = min (l.sampleDrops + (portions - taken)) 65535 ∧
      m.drops = min ((if taken = 0 then l.drops else 0) + (portions - taken)) 255)

/-! ## Sag records and intervals -/

/-- R100, R122: some ACTIVE span of a span record overlaps a cycle. -/
def overlaps (x : SpanRecord) (c : PendingCycle) : Bool :=
  x.start.any (fun a => decide (a < c.stop)) || x.spans.any fun k => decide (k.1 < c.stop) && decide (c.start < k.2)

/-- R100: a span record once the span in progress has closed at a tick: it joins the completed ones, of which the last four stay. -/
def spanClosed (stop : Nat) (x : SpanRecord) : SpanRecord :=
  match x.start with
  | none => x
  | some a => ⟨none, (x.spans ++ [(a, stop)]).drop (x.spans.length - 3)⟩

/-- R108: an eviction candidate: a SENT entry that nothing pins or keeps. -/
def spare (e : SagEntry) : Bool :=
  (match e.status with | .sent _ => true | _ => false) && decide (e.pins = 0) && decide (e.keeps = 0)

/-- R105, R106: the first `k` of some rows have been stored in a capture, all of them unless it has stopped. -/
def Stores (rows : List (List Int)) (c d : Capture) (k : Nat) : Prop :=
  k ≤ rows.length ∧ d.rows = c.rows ++ rows.take k ∧ (c.stopped = true → k = 0 ∧ d.stopped = true) ∧
  (d.stopped = false → k = rows.length)

/-- R93: the event `k` is the event `e` updated from the evaluations of one boundary and the flags of the half-cycle it ends: the
extremes of the members evaluated, the involved set, in ascending channel number (R101), the marks, and GAP, CLIPPED, NOMINAL and
FLYWHEEL. -/
structure Gathers (es : List Evaluation) (flags : HalfFlags) (e k : Event) : Prop where
  extremes :
    k.extremes.length = min e.extremes.length es.length ∧
      ∀ (i : Nat) old x, e.extremes[i]? = some old → es[i]? = some x →
        (x.u = none → k.extremes[i]? = some old) ∧
        ∀ u, x.u = some u → k.extremes[i]? = some (some (old.elim (u, u) fun m => (min m.1 u, max m.2 u)))
  involved : ∀ c, c ∈ k.involved ↔ c ∈ e.involved ∨ ∃ x ∈ es, x.channel = c ∧ x.u ≠ none ∧ x.after ≠ .normal
  rising : e.involved.Pairwise (· < ·) → k.involved.Pairwise (· < ·)
  interruption : k.allInterruption = true ↔ e.allInterruption = true ∨ ∀ x ∈ es, x.after = .interruption
  sag : k.sagMark = true ↔ e.sagMark = true ∨ ∃ x ∈ es, x.after = .sag ∨ x.after = .interruption
  swell : k.swellMark = true ↔ e.swellMark = true ∨ ∃ x ∈ es, x.after = .swell
  gap : k.flags.gap = true ↔ e.flags.gap = true ∨ ∃ x ∈ es, x.u = none
  clipped : k.flags.clipped = true ↔ e.flags.clipped = true ∨ ∃ x ∈ es, x.clipped = true
  nominal : k.flags.nominal = true ↔ e.flags.nominal = true ∨ flags.nominal = true
  flywheel : k.flags.flywheel = true ↔ e.flags.flywheel = true ∨ flags.flywheel = true

/-- R101 to R103, R105: the record of an event that has ended, with the number `k` of its entry. -/
structure RecordOf (n : Grp) (members : List Nat) (voltage : List VoltageMember) (e : Event) (k : Nat) (r : SagRecord) :
    Prop where
  number : r.number = k
  group : r.group = n.val + 1
  start : r.start = e.start
  halves : r.halves = e.halves
  ms : ∀ stop, e.stop = some stop → r.ms = (stop - e.start) * 1000 / 10240
  kind : r.kind = if e.allInterruption = true then .interruption else if e.sagMark = true then .sag else .swell
  involved : r.involved = e.involved
  burst : r.burst = e.burst
  extremes :
    r.extremes = (voltage.zip e.extremes).filterMap fun m =>
      m.2.map fun u => (m.1.channel, if r.kind = .swell then u.2 else u.1)
  worst :
    r.extremes ≠ [] → (r.worst, r.residual) ∈ r.extremes ∧
      ∀ m ∈ r.extremes,
        (r.kind ≠ .swell → r.residual < m.2 ∨ (r.residual = m.2 ∧ r.worst ≤ m.1)) ∧
        (r.kind = .swell → m.2 < r.residual ∨ (m.2 = r.residual ∧ r.worst ≤ m.1))
  flags : r.flags = { e.flags with swellAlso := decide (r.kind ≠ .swell) && e.swellMark }
  maximum :
    (r.flags.swellAlso = false → r.maximum = none) ∧
    (r.flags.swellAlso = true → r.extremes ≠ [] →
      ∃ top, r.maximum = some top ∧ (∃ m ∈ voltage.zip e.extremes, ∃ lo, m.2 = some (lo, top)) ∧
        ∀ m ∈ voltage.zip e.extremes, ∀ u, m.2 = some u → u.2 ≤ top)
  capture :
    (e.capture.rows = [] → r.capture = none) ∧
    (e.capture.rows ≠ [] → r.capture = some ⟨members, e.capture.pre, e.capture.body, e.capture.post⟩)

/-- R96, R107: the sag list once the entry of number `k` has become UNSENT with its record and the capture of its event. -/
def completed (k : Nat) (r : SagRecord) (c : Capture) (l : List SagEntry) : List SagEntry :=
  l.map fun y => if y.number = k then { y with status := .unsent false r, pages := c.pages, rows := c.rows } else y

/-- R125, R126: a channel section of the interval values of a member, order 1 first: values, ratios, THD and exceed set. -/
def SectionOf (bins : BinFields) (channel : Nat) (values : List Nat) (k : ChannelSection) : Prop :=
  let v1 := values.getD 0 0
  let absent : Prop := v1 = 0 ∨ v1 < 16 * bins.minFund
  let ratio (v : Nat) : Nat := min 65535 (v * 10000 / v1)
  k.channel = channel ∧ k.fundamental = some v1 ∧
  k.thd = (if absent then none
    else some (min 65535 (isqrt ((values.drop 1).map fun v => v * v).sum * 10000 / v1))) ∧
  k.orders =
    (bins.orders.zip (values.drop 1)).map (fun o => ⟨o.1, o.2, if absent then none else some (ratio o.2)⟩) ∧
  k.exceeded.Sublist bins.orders ∧
  ∀ h, h ∈ k.exceeded ↔
    ∃ (i limit v : Nat), bins.orders[i]? = some h ∧ bins.limits[i]? = some limit ∧ values[i + 1]? = some v ∧
      ¬absent ∧ limit ≠ 0 ∧ limit < ratio v

/-- R124 to R127, R133: the record of an interval that closes at tick `stop` with the accumulator `x`, its number and
lost-before aside. -/
structure IntervalOf (n : Grp) (bins : BinFields) (members : List Nat) (stop period : Nat) (isPartial : Bool)
    (x : IntervalSums) (r : IntervalRecord) : Prop where
  group : r.group = n.val + 1
  start : r.start = x.start.getD stop
  stop : r.stop = stop
  counts : r.total = x.total ∧ r.used = x.used ∧ r.flagged = x.flagged ∧ r.invalid = x.invalid
  frequency : r.frequency = 81920000 / period
  empty : r.isEmpty = decide (x.used = 0)
  part : r.isPartial = isPartial
  low : r.lowFund = true ↔ x.used ≠ 0 ∧ ∃ k ∈ r.sections, k.thd = none
  absent : x.used = 0 → r.sections = members.map fun c => ⟨c, none, [], none, []⟩
  sections :
    x.used ≠ 0 → r.sections.length = min members.length x.sums.length ∧
      ∀ (i c : Nat) (l : List Nat), members[i]? = some c → x.sums[i]? = some l →
        ∃ k, r.sections[i]? = some k ∧ SectionOf bins c (l.map fun v => isqrt (v / x.used)) k

/-! ## Notes and print jobs -/

/-- R46, R60: a present report at the close of a tick brings a new mark of a supervised pod. Which slot is reported when two
sweeps of the tick differ in it is the model's choice (entry 63). -/
def NewMark (s : State) (p : Pos) : Prop :=
  s.pods.enabled p = true ∧ feedOn (s.pods.records.get p).state = true ∧ (s.pods.records.get p).mark = false ∧
  ∃ w, (s.ring.report p).status = some w ∧ w.getLsbD 11 = true

/-- R147: a mark at this tick is accepted: the last accepted one of its position is absent or at least 20,480 ticks old. -/
def MarkAccepted (s : State) (p : Pos) : Prop :=
  ∀ last, s.notes.lastMark.get p = some last → 20480 ≤ s.survey.tick - last

/-- R136: the first operand of SET-IDENTITY whose length is out of range, by its field number. -/
def identityFault (f : IdentityFields) : Option Nat :=
  if ¬(∀ t ∈ f.site, 1 ≤ t.length ∧ t.length ≤ 8) then some 1
  else if ¬(∀ t ∈ f.crew, 1 ≤ t.length ∧ t.length ≤ 4) then some 2
  else if ¬(∀ t ∈ f.client, t.length ≤ 24) then some 3
  else none

/-- R136: the first operand whose field is written already. -/
def identityTaken (i : Identity) (f : IdentityFields) : Option Nat :=
  if f.site ≠ none ∧ i.site ≠ none then some 1
  else if f.crew ≠ none ∧ i.crew ≠ none then some 2
  else if f.client ≠ none ∧ i.client ≠ none then some 3
  else none

/-- R137, R139: the crew kind of a code: 1 OBSERVATION to 5 PHOTO_REF. -/
def crewKinds : List NoteKind := [.observation, .location, .customer, .equipment, .photoRef]

/-- R139: the first operand of ADD-NOTE out of range, by its place. -/
def noteFault (tick : Nat) (f : NoteFields) : Option Nat :=
  if ¬(1 ≤ f.kind ∧ f.kind ≤ 5) then some 1
  else if ∃ t ∈ f.refer, tick < t then some 2
  else if ∃ n ∈ f.sag, n = 0 ∨ 4294967295 < n then some 3
  else if ∃ n ∈ f.interval, n = 0 ∨ 4294967295 < n then some 4
  else if ∃ n ∈ f.pod, n = 0 ∨ 12 < n then some 5
  else if 480 < f.text.length then some 6
  else none

/-- R143: the first operand of AMEND-NOTE out of range, 0 for the note number. -/
def amendFault (tick n : Nat) (f : AmendFields) : Option Nat :=
  if n = 0 ∨ 128 < n then some 0
  else if ∃ k ∈ f.kind, k = 0 ∨ 5 < k then some 1
  else if ∃ t ∈ f.refer, tick < t then some 2
  else if ∃ k ∈ linkNumber f.sag, k = 0 ∨ 4294967295 < k then some 3
  else if ∃ k ∈ linkNumber f.interval, k = 0 ∨ 4294967295 < k then some 4
  else if ∃ k ∈ linkNumber f.pod, k = 0 ∨ 12 < k then some 5
  else if ∃ t ∈ f.text, 480 < t.length then some 6
  else none

/-- R141: a new sag link to `n` is KEPT: the kept-record list holds the number, or has room and the entry is retained. -/
def keeps (s : State) (n : Nat) : Bool :=
  s.notes.kept.any (fun k => k.1 = n) ||
  (decide (s.notes.kept.length < 32) && s.events.sags.any fun e => decide (e.number = n) && decide (e.status ≠ .opened))

/-- R141: the kept-record list with one more keep of `n`. -/
def keptWith (n : Nat) (l : List (Nat × Nat)) : List (Nat × Nat) :=
  if l.any (fun k => k.1 = n) then l.map fun k => if k.1 = n then (k.1, k.2 + 1) else k else l ++ [(n, 1)]

/-- R142: the kept-record list with one keep of `n` released. -/
def keptWithout (n : Nat) (l : List (Nat × Nat)) : List (Nat × Nat) :=
  (l.map fun k => if k.1 = n then (k.1, k.2 - 1) else k).filter fun k => k.2 ≠ 0

/-- R108: the sag list with the keep count of the retained entry of `n` changed. -/
def keepCounts (n : Nat) (f : Nat → Nat) (l : List SagEntry) : List SagEntry :=
  l.map fun e => if e.number = n ∧ e.status ≠ .opened then { e with keeps := f e.keeps } else e

/-- R156: the first operand of SUBMIT-PRINT out of range, by its place. -/
def submitFault (f : SubmitFields) : Option Nat :=
  if ¬(1 ≤ f.template ∧ f.template ≤ 4) then some 1
  else if 2 ^ 48 - 1 < f.fromTick ∨ f.toTick < f.fromTick then some 2
  else if 2 ^ 48 - 1 < f.toTick then some 3
  else if ¬(1 ≤ f.mask ∧ f.mask ≤ 255) then some 4
  else if ¬(1 ≤ f.copies ∧ f.copies ≤ 3) then some 5
  else none

/-- The job PRINTING or HELD, and the exchange in hand. -/
def InHand (s : State) (j : Job) (x : Exchange) : Prop :=
  s.printer.jobs.find? (fun k => decide (k.state ≠ .queued)) = some j ∧ s.printer.exchange = x

/-- R166: the state in which a message of a job is sent: the job stands as given, its reply timer starts, and a TEXT line is
in the line buffer, which any other message leaves as it is (entry 64). -/
def sent (j : Job) (s : State) : State :=
  { s with printer :=
    { s.printer with
      jobs := s.printer.jobs.map fun k => if k.number = j.number then j else k
      exchange := .message 0
      lineBuffer := match j.current with | .text line => line | _ => s.printer.lineBuffer } }

/-- The state in which a job stands as given, with an exchange in hand and nothing sent. -/
def waiting (j : Job) (x : Exchange) (s : State) : State :=
  { s with printer :=
    { s.printer with
      jobs := s.printer.jobs.map fun k => if k.number = j.number then j else k
      exchange := x } }

/-- R155: a job as it starts PRINTING: the opening query is its message, with retry count 0 and the held limit running. -/
def started (j : Job) : Job :=
  { j with state := .printing, copy := 1, held := 0, current := .query, rest := [], nextSect := 0, retries := 0 }

/-- R165: the state in which the printer stands as given: a change of paper, fault, hot mark or answering state offers one
PRINTER notice (entry 23), with the number of the job PRINTING or HELD. -/
def printerTold (x : Printer) (s : State) : State :=
  let v : State := { s with printer := x }
  if x.status.map (fun k => (k.paper, k.fault)) = s.printer.status.map (fun k => (k.paper, k.fault)) ∧
      x.hot = s.printer.hot ∧ x.answering = s.printer.answering then v
  else
    v.offer (.printer x.status x.answering x.hot
      ((x.jobs.find? fun j => decide (j.state ≠ .queued)).map fun j => j.number))

/-- R169: a job that has ended. It is out of the queue, its pins are removed and a JOB notice with its ending is offered; the
exchange in hand is over when the job was PRINTING or HELD, and the line buffer keeps its line (entry 64). Then, when no job is PRINTING
or HELD, the oldest QUEUED one starts with its opening query (R155). Nothing else changes. -/
def JobEnded (s t : State) (j : Job) (ending : JobEnding) : Prop :=
  let left := s.printer.jobs.filter fun k => decide (k.number ≠ j.number)
  let gone : State :=
    { s with
      printer :=
        { s.printer with jobs := left, exchange := if j.state = .queued then s.printer.exchange else .idle }
      events :=
        { s.events with sags :=
            s.events.sags.map fun e =>
              if e.number ∈ j.sags ∧ e.status ≠ .opened then { e with pins := e.pins - 1 } else e }
      harmonics :=
        { s.harmonics with intervals :=
            s.harmonics.intervals.map fun e =>
              if e.record.number ∈ j.intervals then { e with pins := e.pins - 1 } else e }
      link := s.link.offer ⟨s.survey.tick, .job j.number ending j.copy⟩ }
  t.link.notices.getLast? = some ⟨s.survey.tick, .job j.number ending j.copy⟩ ∧
  (left = [] ∨ (∃ k ∈ left, k.state ≠ .queued) → t = gone) ∧
  (∀ k rest, left = k :: rest → (∀ m ∈ left, m.state = .queued) → t = sent (started k) gone)

/-- R158, R159: section `k` of a copy of a job has been composed from the state as it stands and its first message sent; the
print tick is taken with the first section of a copy. -/
def SectionBegun (j : Job) (copy k : Nat) (sect : Sect) (s t : State) : Prop :=
  let i := { j with
    state := .printing, retries := 0, held := 0, copy := copy, nextSect := k + 1
    printTick := if k = 0 then s.survey.tick else j.printTick }
  ∀ m rest, composeSect i s sect = m :: rest → t = sent { i with current := m, rest := rest } s

/-- R158, R166: a message of a job PRINTING or HELD is complete. The next message of the section in hand is sent; or the next
section of the template begins; or the next copy begins with the template's first section; or the last copy is complete and
the job is DONE. -/
def MessageDone (s t : State) (j : Job) : Prop :=
  let sects := ((ofNumber 4 j.template).bind s.printer.templates.get).getD []
  (∀ m rest, j.rest = m :: rest →
    t = sent { j with state := .printing, retries := 0, held := 0, current := m, rest := rest } s) ∧
  (∀ sect, j.rest = [] → sects[j.nextSect]? = some sect → SectionBegun j j.copy j.nextSect sect s t) ∧
  (∀ sect, j.rest = [] → sects[j.nextSect]? = none → j.copy < j.copies → sects[0]? = some sect →
    SectionBegun j (j.copy + 1) 0 sect s t) ∧
  (j.rest = [] → sects[j.nextSect]? = none → j.copies ≤ j.copy → JobEnded s t j .done)

/-! ## The report -/

/-- R158: a line of the report that holds a short text, filled with spaces to 48. -/
def lineOf (t : String) : Message := .text (ascii t ++ List.replicate (48 - t.length) 32#8)

/-- R158: a section under its heading: its lines, or one line holding NONE. -/
def underHeading (name : String) (lines : List (List Byte)) : List Message :=
  lineOf name :: (if lines = [] then [lineOf "NONE"] else lines.flatMap linesOf)

/-- R161: the entries of a job's sag selection that pass a filter, with their records. -/
def selectedSags (f : SagFilter) (j : Job) (s : State) : List (SagEntry × SagRecord) :=
  j.sags.filterMap fun n =>
    (s.events.sags.find? fun e => decide (e.number = n) && decide (e.status ≠ .opened)).bind fun e =>
      match e.status with
      | .opened => none
      | .unsent _ r | .sent r =>
        if f.groups.testBit (r.group - 1) = true ∧
            f.kinds.testBit (match r.kind with | .sag => 0 | .interruption => 1 | .swell => 2) = true ∧
            (r.kind = .swell ∨ r.residual ≤ f.maxResidual) then some (e, r)
        else none

/-- R163: the groups of a section's mask and of the job's, ascending. -/
def groupsOf (mask : Nat) (j : Job) : List Grp := (indexes 8).filter fun n => mask.testBit n.val && j.mask.testBit n.val

/-! ## Invariants -/

/-- R176, R178, R181 to R183, R186, R187: the queues, counts and counters of the link stay within their sizes. -/
structure LinkBounds (l : Link) : Prop where
  replies : l.replies.length + (if l.reserved.isSome then 1 else 0) ≤ 8
  directives : l.directives.length ≤ 4
  notices : l.notices.length ≤ 16
  records : l.records.length ≤ 32
  samples : l.samples.length ≤ 32
  grant : l.grant ≤ 64
  grantCount : l.grantCount ≤ 64
  sequence : l.sequence < 256
  overrun : l.overrun ≤ 255
  lostNotices : l.lostNotices ≤ 255
  drops : l.drops ≤ 255
  linkErrors : l.linkErrors ≤ 65535
  overruns : l.overruns ≤ 65535
  sampleDrops : l.sampleDrops ≤ 65535
  noticeLosses : l.noticeLosses ≤ 65535

/-- R69: what keeps a tracker's filtered half-period in 1248..1824. -/
structure TrackerBounds (x : Tracker) : Prop where
  period : 1248 ≤ x.period ∧ x.period ≤ 1824
  history : ∀ h ∈ x.history, 78 ≤ h ∧ h ≤ 114
  intervals : ∀ h ∈ x.intervals, 78 ≤ h ∧ h ≤ 114
  few : x.intervals.length ≤ 3
  full : x.state = .locked ∨ x.state = .flywheel ∨ x.due = some .forced → x.history.length = 8

/-- R69: every tracker is within its bounds, and every stored filter exponent is at most 3 (R3). -/
structure PeriodBounds (s : State) : Prop where
  trackers : ∀ n, TrackerBounds (s.trackers.get n)
  exponents : ∀ n g, s.survey.groups.get n = some g → g.f ≤ 3

/-- R155: at most 4 live jobs of different numbers, at most one PRINTING or HELD. -/
structure JobBounds (x : Printer) : Prop where
  few : x.jobs.length ≤ 4
  numbers : (x.jobs.map fun j => j.number).Nodup
  active : x.jobs.countP Job.isActive ≤ 1

/-- R92, R96, R101, R107, R127, R130, R135 to R141, R150: the lists of records and notes. The sag entries, the interval entries and the
numbers of the pending set rise without repeats, within the numbers issued; a retained sag entry holds a record of its own
number; the involved channels of an event in progress and of a record rise without repeats (R101); and each list stays within its
size. -/
structure ListBounds (s : State) : Prop where
  pending : s.notes.pending.Pairwise (· < ·)
  notes : ∀ n ∈ s.notes.pending, 1 ≤ n ∧ n ≤ s.notes.notes.length
  sags : s.events.sags.Pairwise fun a b => a.number < b.number
  issued : ∀ e ∈ s.events.sags, 1 ≤ e.number ∧ e.number ≤ s.events.lastSag
  records : ∀ e ∈ s.events.sags, ∀ r, (e.status = .sent r ∨ ∃ again, e.status = .unsent again r) → r.number = e.number
  gathered : ∀ n e, (s.events.groups.get n).event = some e → e.involved.Pairwise (· < ·)
  involved :
    ∀ e ∈ s.events.sags, ∀ r, (e.status = .sent r ∨ ∃ again, e.status = .unsent again r) → r.involved.Pairwise (· < ·)
  intervals : s.harmonics.intervals.Pairwise fun a b => a.record.number < b.record.number
  closed : ∀ e ∈ s.harmonics.intervals, 1 ≤ e.record.number ∧ e.record.number ≤ s.harmonics.lastInterval
  last : s.events.lastSag ≤ 4294967295 ∧ s.harmonics.lastInterval ≤ 4294967295
  sizes :
    s.events.sags.length ≤ 64 ∧ s.harmonics.intervals.length ≤ 96 ∧ s.notes.notes.length ≤ 128 ∧
      s.notes.segments.length ≤ 512 ∧ s.notes.kept.length ≤ 32

/-- R107: every capture page of the pool: those free, those of the retained records, those reserved for a history and those of
the captures of events in progress. -/
def poolOf (x : Events) : List Nat :=
  x.freePages ++ x.sags.flatMap (fun e => e.pages) ++
    (indexes 8).flatMap fun n =>
      (x.groups.get n).reserved ++ (x.groups.get n).event.elim [] fun e => e.capture.pages

/-- R91, R92, R107, R109, R113: each of the 128 capture pages is in one place. An event in progress holds pages only when it is
recorded, and then its entry is OPEN and holds none; the events in progress have numbers of their own; a machine QUIET or
LATCHED has no event. -/
structure PagesAccounted (s : State) : Prop where
  lists : ListBounds s
  pages : (poolOf s.events).Perm (List.range 128)
  opened : ∀ e ∈ s.events.sags, e.status = .opened → e.pages = []
  idle : ∀ n, (s.events.groups.get n).machine = .quiet ∨ (s.events.groups.get n).machine = .latched →
    (s.events.groups.get n).event = none
  numbers : ∀ n e k, (s.events.groups.get n).event = some e → e.number = some k → k ≤ s.events.lastSag
  distinct : ∀ m n e f k, m ≠ n → (s.events.groups.get m).event = some e → (s.events.groups.get n).event = some f →
    e.number = some k → f.number ≠ some k
  recorded : ∀ n e, (s.events.groups.get n).event = some e → e.recorded = true →
    ∃ x ∈ s.events.sags, e.number = some x.number ∧ x.status = .opened
  unrecorded : ∀ n e, (s.events.groups.get n).event = some e → e.recorded = false → e.capture.pages = []

/-- R141: how many LIVE notes keep a sag number. -/
def keepers (x : Notes) (n : Nat) : Nat :=
  x.notes.countP fun m => decide (m.state = .live) && decide (m.sag = some ⟨n, true⟩)

/-- R108, R130, R141, R142, R157, R169: the counts of the sag and interval lists match their holders. A kept number counts the LIVE
notes that keep it and is retained; an entry's keep count is that of its number, and its pin count the number of live jobs that
list it; an OPEN entry has neither; what a live job lists is retained. -/
structure HoldersCounted (s : State) : Prop where
  lists : ListBounds s
  jobs : JobBounds s.printer
  keptOnce : (s.notes.kept.map fun k => k.1).Nodup
  kept : ∀ k ∈ s.notes.kept, 0 < k.2 ∧ k.2 = keepers s.notes k.1
  keeping : ∀ n, 0 < keepers s.notes n → ∃ k ∈ s.notes.kept, k.1 = n
  keptStays : ∀ k ∈ s.notes.kept, ∃ e ∈ s.events.sags, e.number = k.1 ∧ e.status ≠ .opened
  keeps : ∀ e ∈ s.events.sags, e.keeps = keepers s.notes e.number
  pins : ∀ e ∈ s.events.sags, e.pins = s.printer.jobs.countP fun j => j.sags.contains e.number
  opened : ∀ e ∈ s.events.sags, e.status = .opened → e.keeps = 0 ∧ e.pins = 0
  pinned : ∀ j ∈ s.printer.jobs, ∀ n ∈ j.sags, ∃ e ∈ s.events.sags, e.number = n ∧ e.status ≠ .opened
  intervalPins :
    ∀ e ∈ s.harmonics.intervals, e.pins = s.printer.jobs.countP fun j => j.intervals.contains e.record.number
  intervalPinned : ∀ j ∈ s.printer.jobs, ∀ n ∈ j.intervals, ∃ e ∈ s.harmonics.intervals, e.record.number = n

end Sys2Proof.Machine
end

