-- ==== Sys2Proof/WellFormed.lean ====
section
/-! DEFINITION. Well-formed commands: each operand fits the field that carries it (R191, R165, R173). A value out of its
rule's range but inside its field is well formed: the owner refuses it. -/

namespace Sys2Proof

/-- A number that fits a field of `k` bytes. -/
def fits (k n : Nat) : Bool := decide (n < 256 ^ k)

/-- A list that fits its one-byte count, of items of `k` bytes. -/
def listFits (k : Nat) (l : List Nat) : Bool := fits 1 l.length && l.all (fits k)

/-- Text that fits its two-byte length. -/
def textFits (t : List Byte) : Bool := fits 2 t.length

def ChannelFields.fits (c : ChannelFields) : Bool :=
  Sys2Proof.fits 1 c.kind && Sys2Proof.fits 1 c.range && Sys2Proof.fits 2 c.nom && Sys2Proof.fits 2 c.declared &&
  Sys2Proof.fits 1 c.raw && Sys2Proof.fits 1 c.analyse && Sys2Proof.fits 1 c.harmonic

def GroupFields.fits (g : GroupFields) : Bool :=
  listFits 1 g.members && g.bins.all (Sys2Proof.fits 1) && g.refB.all (Sys2Proof.fits 1) &&
  [g.profile, g.nominal, g.refA, g.k, g.f, g.m, g.w, g.d, g.flywheel].all (Sys2Proof.fits 1)

def ProfileFields.fits (p : ProfileFields) : Bool :=
  [p.intEnter, p.intExit, p.sagEnter, p.sagExit, p.swellExit, p.swellEnter, p.burstMs, p.maxSeconds].all
    (Sys2Proof.fits 2) && [p.pre, p.post, p.body].all (Sys2Proof.fits 1)

def BinFields.fits (b : BinFields) : Bool :=
  listFits 1 b.orders && listFits 2 b.limits && Sys2Proof.fits 1 b.blockLength && Sys2Proof.fits 1 b.exponent &&
  Sys2Proof.fits 2 b.minFund

def PodFields.fits (p : PodFields) : Bool :=
  [p.enable, p.typeCode, p.retry, p.quiet].all (Sys2Proof.fits 1) && p.silence.all (Sys2Proof.fits 1) &&
  [p.offTime, p.cooldown].all (Sys2Proof.fits 2)

/-- The operands of a section as the payload parser gives them: a known kind with all its operands in their widths. -/
def SectionArg.fits : SectionArg → Bool
  | .unreadable => true
  | .given kind ops =>
    match kind, ops with
    | 1, [] | 2, [] => true
    | 3, [g, k, r] | 4, [g, k, r] => Sys2Proof.fits 1 g && Sys2Proof.fits 1 k && Sys2Proof.fits 2 r
    | 5, [n] | 6, [n] | 7, [n] | 8, [n] | 9, [n] => Sys2Proof.fits 1 n
    | _, _ => false

/-- A section list holds as many sections as its count says, or stops at the first that cannot be read. -/
def TemplateFields.fits (t : TemplateFields) : Bool :=
  Sys2Proof.fits 1 t.count && t.sections.all SectionArg.fits &&
  t.sections.dropLast.all (fun x => decide (x ≠ .unreadable)) &&
  (if t.sections.getLast? = some .unreadable then decide (t.sections.length ≤ t.count)
   else decide (t.sections.length = t.count))

def PrinterFields.fits (p : PrinterFields) : Bool :=
  [p.retryLimit, p.hotLimit, p.resumeLimit, p.heldMinutes].all (Sys2Proof.fits 1) &&
  [p.retryMs, p.cooldown].all (Sys2Proof.fits 2)

def LinkArg.fits (k : Nat) : LinkArg → Bool
  | .given n => Sys2Proof.fits k n
  | _ => true

def NoteFields.fits (n : NoteFields) : Bool :=
  Sys2Proof.fits 1 n.kind && n.refer.all (Sys2Proof.fits 6) && n.sag.all (Sys2Proof.fits 4) &&
  n.interval.all (Sys2Proof.fits 4) && n.pod.all (Sys2Proof.fits 1) && textFits n.text

def AmendFields.fits (n : AmendFields) : Bool :=
  n.kind.all (Sys2Proof.fits 1) && n.refer.all (Sys2Proof.fits 6) && LinkArg.fits 4 n.sag &&
  LinkArg.fits 4 n.interval && LinkArg.fits 1 n.pod && n.text.all textFits

def SubmitFields.fits (p : SubmitFields) : Bool :=
  [p.template, p.mask, p.copies].all (Sys2Proof.fits 1) && [p.fromTick, p.toTick].all (Sys2Proof.fits 6)

def OpenFields.fits (o : OpenFields) : Bool :=
  Sys2Proof.fits 2 o.number && Sys2Proof.fits 4 o.wall && o.site.all textFits && o.crew.all textFits

def IdentityFields.fits (o : IdentityFields) : Bool :=
  o.site.all textFits && o.crew.all textFits && o.client.all textFits

def NoteSelector.fits : NoteSelector → Bool
  | .note n => Sys2Proof.fits 1 n
  | .identity => true

/-- Every operand of a directive fits the field that carries it. -/
def Directive.fits : Directive → Bool
  | .loadChannel i f => Sys2Proof.fits 1 i && f.all ChannelFields.fits
  | .loadGroup i f => Sys2Proof.fits 1 i && f.all GroupFields.fits
  | .loadProfile i f => Sys2Proof.fits 1 i && f.all ProfileFields.fits
  | .loadBins i f => Sys2Proof.fits 1 i && f.all BinFields.fits
  | .loadPod i f => Sys2Proof.fits 1 i && f.all PodFields.fits
  | .loadTemplate i f => Sys2Proof.fits 1 i && f.all TemplateFields.fits
  | .loadPrinter f => f.fits
  | .loadLink g => Sys2Proof.fits 1 g
  | .readTable t i => Sys2Proof.fits 1 t && Sys2Proof.fits 1 i
  | .openSurvey f => f.fits
  | .closeSurvey => true
  | .restart => true
  | .setIdentity f => f.fits
  | .addNote f => f.fits
  | .amendNote n f => Sys2Proof.fits 1 n && f.fits
  | .withdrawNote n => Sys2Proof.fits 1 n
  | .mark => true
  | .readNote w => w.fits
  | .submitPrint f => f.fits
  | .cancelPrint j => Sys2Proof.fits 2 j
  | .podRead p k => Sys2Proof.fits 1 p && Sys2Proof.fits 1 k
  | .podWrite p k v => Sys2Proof.fits 1 p && Sys2Proof.fits 1 k && Sys2Proof.fits 2 v
  | .podCycle p => Sys2Proof.fits 1 p
  | .podRelease p => Sys2Proof.fits 1 p
  | .readKit => true
  | .readSnapshot => true
  | .clearSnapshot => true
  | .clearCounters => true
  | .clearPeaks g => Sys2Proof.fits 1 g
  | .readSag n => Sys2Proof.fits 4 n

/-- The directive, with its tag, that a command carries. -/
def Instr.directive : Instr → Option (Byte × Directive)
  | .loadChannel t i f => some (t, .loadChannel i f)
  | .loadGroup t i f => some (t, .loadGroup i f)
  | .loadProfile t i f => some (t, .loadProfile i f)
  | .loadBins t i f => some (t, .loadBins i f)
  | .loadPod t i f => some (t, .loadPod i f)
  | .loadTemplate t i f => some (t, .loadTemplate i f)
  | .loadPrinter t f => some (t, .loadPrinter f)
  | .loadLink t g => some (t, .loadLink g)
  | .readTable t k i => some (t, .readTable k i)
  | .openSurvey t f => some (t, .openSurvey f)
  | .closeSurvey t => some (t, .closeSurvey)
  | .restart t => some (t, .restart)
  | .setIdentity t f => some (t, .setIdentity f)
  | .addNote t f => some (t, .addNote f)
  | .amendNote t n f => some (t, .amendNote n f)
  | .withdrawNote t n => some (t, .withdrawNote n)
  | .mark t => some (t, .mark)
  | .readNote t w => some (t, .readNote w)
  | .submitPrint t f => some (t, .submitPrint f)
  | .cancelPrint t j => some (t, .cancelPrint j)
  | .podRead t p k => some (t, .podRead p k)
  | .podWrite t p k v => some (t, .podWrite p k v)
  | .podCycle t p => some (t, .podCycle p)
  | .podRelease t p => some (t, .podRelease p)
  | .readKit t => some (t, .readKit)
  | .readSnapshot t => some (t, .readSnapshot)
  | .clearSnapshot t => some (t, .clearSnapshot)
  | .clearCounters t => some (t, .clearCounters)
  | .clearPeaks t g => some (t, .clearPeaks g)
  | .readSag t n => some (t, .readSag n)
  | .hardwareReset | .tickStart | .sweepReturn .. | .tickClose | .trialSweep | .downRetry | .transactionTimeout
  | .poweringTimeout .. | .silenceLimit .. | .offTimerExpiry .. | .feedDrained .. | .drainWaitTimeout ..
  | .cooldownExpiry .. | .quietPeriod .. | .timedBoundary .. | .forcedBoundary .. | .wheelBoundary .. | .sagRecordEmit
  | .intervalRecordEmit | .noteRecordEmit | .frameSend | .inboundFrame .. | .byteGapTimeout | .badDirective ..
  | .printerStatus .. | .printReplyTimeout | .printRetryInterval | .printPollDelay | .heldPoll
  | .printCooldownExpiry | .heldLimitExpiry => none

/-- R165: a STATUS as the printer line carries it. -/
def PrinterStatus.fits (s : PrinterStatus) : Bool :=
  decide (-128 ≤ s.temp) && decide (s.temp ≤ 127) && Sys2Proof.fits 1 s.fault

/-- A well-formed command. -/
def Instr.wellFormed (i : Instr) : Bool :=
  match i with
  | .badDirective _ payload => decide (payload.length ≤ 512)
  | .printerStatus s => s.fits
  | i => i.directive.all fun d => d.2.fits

end Sys2Proof
end

