-- ==== Sys2Proof/Certificates/Slice0/Obligations.lean ====
section
/-! DEFINITION. The statements for the provers. Each says which rules of spec/ it states; `Takes` says that the handler
takes a directive (R177) and `replied` what its reply does to the link (R179). -/

open Sys2Proof Sys2Proof.Machine

/-! ## The queue of commands and the station link (09) -/

/-- The block's step: the command at the front of the queue runs on the state with the queue's rest; an empty queue idles (the
model's choice, entries 1 and 2). -/
def Obligations.StepRunsFront : Prop :=
  ∀ s : State,
    (∀ c rest, s.pending = c :: rest → step s = exec c { s with pending := rest }) ∧
    (s.pending = [] → step s = .next s)

/-- R176, R177, R179: a directive that is not carried out. While no reply entry is free, or while another directive stands at
the head of the directive queue, a directive command changes nothing, which is the model's choice (entries 1 and 3). One whose
payload cannot be read is answered BAD_DIRECTIVE with the code as received, with no other effect; the code for a payload of no
bytes is a free value (entry 27). -/
def Obligations.UnservedDirectives : Prop :=
  (∀ (c : Instr) (tag : Byte) (d : Directive) (s : State), c.directive = some (tag, d) →
    (8 ≤ s.link.replies.length + (if s.link.reserved.isSome then 1 else 0) ∨
      ∃ q rest, s.link.directives = q :: rest ∧ ¬(q.tag = tag ∧ parseDirective q.payload = some d)) →
    exec c s = .next s) ∧
  (∀ (tag : Byte) (payload : List Byte) (s : State), parseDirective payload = none →
    s.link.replies.length + (if s.link.reserved.isSome then 1 else 0) < 8 →
    (∀ rest, s.link.directives = ⟨tag, payload⟩ :: rest →
      exec (.badDirective tag payload) s =
        .next (replied tag (payload.head?.getD Config.absentDirectiveCode) .badDirective []
          { s with link := { s.link with directives := rest } })) ∧
    (s.link.directives = [] →
      exec (.badDirective tag payload) s =
        .next (replied tag (payload.head?.getD Config.absentDirectiveCode) .badDirective [] s)) ∧
    (∀ q rest, s.link.directives = q :: rest → q ≠ ⟨tag, payload⟩ → exec (.badDirective tag payload) s = .next s))

/-- R177, R179: every directive taken (`Takes`, entry 3) completes, and is answered by one reply with its tag and directive
code, last of the full ones, or has its entry reserved (POD-READ and POD-WRITE alone). Only RESTART lets another reply become
full before its own: the ABORTED one of the transaction it withdraws. -/
def Obligations.EveryDirectiveAnswered : Prop :=
  ∀ (c : Instr) (tag : Byte) (d : Directive) (s u : State), c.directive = some (tag, d) → Takes s tag d u →
    ∃ t, exec c s = .next t ∧ t.link.directives = u.link.directives ∧
      ((∃ before r data n, t.link.replies = u.link.replies ++ before ++ [⟨tag, codeDirective d, r, data, n⟩] ∧
          t.link.overrun = 0 ∧ before.length ≤ 1 ∧ (d ≠ .restart → before = [] ∧ n = u.link.overrun)) ∨
       ((∃ p k, d = .podRead p k) ∨ ∃ p k v, d = .podWrite p k v) ∧
          t.link.replies = u.link.replies ∧ t.link.reserved = some (tag, codeDirective d))

/-- R173 to R176: the receiver. A whole frame received while hunting joins the directive queue when it is a DIRECTIVE frame
with a passing check sequence, or is discarded and counted as an overrun while the queue holds four; any other frame is
discarded and counted as a link error, as is one whose length is above 512, when the length is read. A frame may come in
several runs of bytes: a run is taken as its parts are, one after the other, and at most 1,024 ticks between two runs make no
difference to the frame in hand. More than 1,024 ticks after its last byte a frame is discarded and counted, by
BYTE_GAP_TIMEOUT or by the next byte, which is then the first one of hunting; earlier, or while hunting, BYTE_GAP_TIMEOUT
changes nothing (entries 1 and 5). One command carries a run of bytes without a gap (entry 29). -/
def Obligations.ReceiverJudges : Prop :=
  (∀ (s : State) (armed : Bool) (kind tag : Byte), s.link.receiver = .hunting armed →
      let discarded : State := { s with link :=
        { s.link with
          receiver := .hunting false
          linkErrors := min (s.link.linkErrors + 1) 65535 } }
      (∀ (payload : List Byte) (check : BitVec 16), payload.length ≤ 512 →
        let body := kind :: tag :: BitVec.ofNat 8 (payload.length / 256) :: BitVec.ofNat 8 payload.length :: payload
        let frame := 0xA5 :: 0x5A :: (body ++ [BitVec.ofNat 8 (check.toNat / 256), BitVec.ofNat 8 check.toNat])
        (check = crc body ∧ kind = 0x01 → s.link.directives.length < 4 →
          exec (.inboundFrame frame) s =
            .next { s with link :=
              { s.link with
                receiver := .hunting false
                directives := s.link.directives ++ [⟨tag, payload⟩] } }) ∧
        (check = crc body ∧ kind = 0x01 → 4 ≤ s.link.directives.length →
          exec (.inboundFrame frame) s =
            .next { s with link :=
              { s.link with
                receiver := .hunting false
                overrun := min (s.link.overrun + 1) 255
                overruns := min (s.link.overruns + 1) 65535 } }) ∧
        (¬(check = crc body ∧ kind = 0x01) → exec (.inboundFrame frame) s = .next discarded)) ∧
      (∀ high low : Byte, 512 < high.toNat * 256 + low.toNat →
        exec (.inboundFrame [0xA5, 0x5A, kind, tag, high, low]) s = .next discarded)) ∧
  (∀ (s : State) (body : List Byte) (gap : Nat),
      (s.link.receiver = .inFrame body gap → 1024 < gap →
        exec .byteGapTimeout s =
          .next { s with link :=
            { s.link with
              receiver := .hunting false
              linkErrors := min (s.link.linkErrors + 1) 65535 } }) ∧
      (s.link.receiver = .inFrame body gap → gap ≤ 1024 → exec .byteGapTimeout s = .next s) ∧
      (∀ armed, s.link.receiver = .hunting armed → exec .byteGapTimeout s = .next s)) ∧
  (∀ (first rest : List Byte) (s t : State), exec (.inboundFrame first) s = .next t →
    exec (.inboundFrame (first ++ rest)) s = exec (.inboundFrame rest) t) ∧
  (∀ (s : State) (body : List Byte) (gap : Nat) (b : Byte) (rest : List Byte), s.link.receiver = .inFrame body gap →
    (gap ≤ 1024 →
      exec (.inboundFrame (b :: rest)) s =
        exec (.inboundFrame (b :: rest)) { s with link := { s.link with receiver := .inFrame body 0 } }) ∧
    (1024 < gap →
      exec (.inboundFrame (b :: rest)) s =
        exec (.inboundFrame (b :: rest))
          { s with link :=
            { s.link with
              receiver := .hunting false
              linkErrors := min (s.link.linkErrors + 1) 65535 } }))

/-- R183 (with R173, R179, R187): the arbiter's choice when the transmitter is free, which FRAME_SEND says (entry 28). A reply
goes first, then a notice with the lost count, then by the grant count the record or the sample queue. Each frame but a reply
takes the outbound sequence number as its tag. What a notice holds where R192 leaves it open is the model's choice (entries 25,
66 and 74). -/
def Obligations.ArbiterChooses : Prop :=
  ∀ (s : State) (tag : Byte), tag = BitVec.ofNat 8 s.link.sequence →
    let send (l : Link) : State := { s with link := l }
    let next := (s.link.sequence + 1) % 256
    (∀ r rest, s.link.replies = r :: rest →
      exec .frameSend s =
        .next (send { s.link with
          replies := rest
          transmitting := some (stationFrame 0x81 r.tag (replyPayload r)) })) ∧
    (∀ n rest, s.link.replies = [] → s.link.notices = n :: rest →
      exec .frameSend s =
        .next (send { s.link with
          notices := rest
          lostNotices := 0
          sequence := next
          transmitting := some (stationFrame 0x82 tag (noticePayload s.link.lostNotices n)) })) ∧
    (∀ r rest, s.link.replies = [] → s.link.notices = [] → s.link.records = r :: rest →
      (s.link.samples = [] ∨ (0 < s.link.grant ∧ s.link.grant ≤ s.link.grantCount)) →
      exec .frameSend s =
        .next (send { s.link with
          records := rest
          grantCount := 0
          sequence := next
          transmitting := some (stationFrame (recordPayload r).1 tag (recordPayload r).2) })) ∧
    (∀ f rest, s.link.replies = [] → s.link.notices = [] → s.link.samples = f :: rest →
      (s.link.records = [] ∨ s.link.grant = 0 ∨ s.link.grantCount < s.link.grant) →
      exec .frameSend s =
        .next (send { s.link with
          samples := rest
          grantCount := if s.link.records = [] then 0 else min (s.link.grantCount + 1) 64
          sequence := next
          transmitting := some (stationFrame 0x85 tag (samplePayload f)) })) ∧
    (s.link.replies = [] → s.link.notices = [] → s.link.records = [] → s.link.samples = [] →
      exec .frameSend s = .next (send { s.link with transmitting := none }))

/-- R180: LOAD-LINK replaces the grant window by a value in 0..64 and answers it; a value outside is refused with field 1 and
nothing else changes. The grant count keeps its value. That the answer gives G in one byte is the model's reading (entry 61).
R5, R6, R152 to R154: LOAD-TEMPLATE is locked while a live job uses the template, whatever the survey state, and otherwise
checked section by section and stored or unset; LOAD-PRINTER is checked field by field, then the resume limit against the hot
limit, and stored whole and answered as stored, in any state. -/
def Obligations.LinkAndPrinterLoads : Prop :=
  (∀ (s u : State) (tag : Byte) (g : Nat), Takes s tag (.loadLink g) u →
    (g ≤ 64 →
      exec (.loadLink tag g) s =
        .next (replied tag 0x08 .ok [BitVec.ofNat 8 g] { u with link := { u.link with grant := g } })) ∧
    (64 < g → exec (.loadLink tag g) s = .next (replied tag 0x08 .badValue [0x01] u))) ∧
  (∀ (s u : State) (tag : Byte) (k : Nat) (f : Option TemplateFields), Takes s tag (.loadTemplate k f) u →
    LoadFollows 4 (∃ j ∈ u.printer.jobs, j.template = k) k (f.bind templateFault)
      (fun r data => exec (.loadTemplate tag k f) s = .next (replied tag 0x06 r data u))
      (fun i => exec (.loadTemplate tag k f) s =
        .next (replied tag 0x06 .ok [BitVec.ofNat 8 k]
          { u with printer :=
            { u.printer with
              templates := u.printer.templates.set i (f.map fun t => t.sections.filterMap sectOf) } }))) ∧
  (∀ (s u : State) (tag : Byte) (f : PrinterFields), Takes s tag (.loadPrinter f) u →
    (∀ r field, printerFault f = some (r, field) →
      exec (.loadPrinter tag f) s = .next (replied tag 0x07 r [BitVec.ofNat 8 field] u)) ∧
    (printerFault f = none →
      exec (.loadPrinter tag f) s =
        .next (replied tag 0x07 .ok (settingsBytes f) { u with printer := { u.printer with settings := f } })))

/-- R176, R178, R181 to R183, R186, R187: every step of the block keeps the link's queues, counts and counters within their
sizes, for every command and every state in which they are. -/
def Obligations.LinkBoundsKept : Prop :=
  ∀ s t : State, LinkBounds s.link → step s = .next t → LinkBounds t.link

/-! ## Survey runs and the tables (01) -/

/-- R1 to R6, the reload of R43, R47, R50, R61: LOAD-CHANNEL and LOAD-GROUP are decided lock, index, ranges, cross-field; an
accepted load replaces the entry, or unsets it. A pod of the loaded channel's position in ACTIVE, MISMATCH or JOINING joins
again when its entry is enabled: its join transactions are withdrawn, its five reads wait in their place, the free slot taking
the first of those that wait (R39), and its move to JOINING offers a POD notice of cause TABLE. In any other state only its
retry count is held to the limit. A position that is not enabled is left alone, and so is everything else when the RAW set
stays as it was. A group load changes nothing but its entry. A channel load that changes the RAW set closes the block in
formation with the tick in progress: at once when that tick has been taken, and else at its close, which still takes the old
set (R184). -/
def Obligations.ChannelAndGroupLoads : Prop :=
  (∀ (s u : State) (tag : Byte) (k : Nat) (f : Option ChannelFields), Takes s tag (.loadChannel k f) u →
    LoadFollows 48 (u.survey.state ≠ .closed) k (f.bind channelFault)
      (fun r data => exec (.loadChannel tag k f) s = .next (replied tag 0x01 r data u))
      (fun c => ∃ v, exec (.loadChannel tag k f) s = .next (replied tag 0x01 .ok [BitVec.ofNat 8 k] v) ∧
        v.survey =
          { u.survey with
            channels := u.survey.channels.set c (f.map fun e =>
              if e.kind = 3 then .unused
              else .mapped ⟨if e.kind = 1 then .voltage else .current, e.range, e.nom, e.declared, e.raw = 1,
                e.analyse = 1, e.harmonic = 1⟩) } ∧
        v.trackers = u.trackers ∧ v.events = u.events ∧ v.harmonics = u.harmonics ∧ v.notes = u.notes ∧
        v.printer = u.printer ∧ v.pending = u.pending ∧ v.pods.table = u.pods.table ∧
        v.pods.snapshot = u.pods.snapshot ∧ v.pods.drained = u.pods.drained ∧
        (∀ q : Pos, q.val ≠ c.val / 4 → v.pods.records.get q = u.pods.records.get q) ∧
        (let p : Pos := ⟨c.val / 4, by omega⟩
        let old := u.pods.records.get p
        let retry := min old.retry ((u.pods.table.get p).elim 0 fun e => e.retry)
        let told : Link :=
          if u.pods.enabled p = true ∧ (old.state = .active ∨ old.state = .mismatch) then
            u.link.offer ⟨u.survey.tick, .pod p old.state .joining .table retry (summaryFlags v.pods v.ring)⟩
          else u.link
        v.link =
          { told with
            block := v.link.block, rawHold := v.link.rawHold, samples := v.link.samples, drops := v.link.drops
            sampleDrops := v.link.sampleDrops } ∧
        (u.pods.enabled p = false →
          v.pods = u.pods ∧ v.ring = u.ring ∧
          (v.survey.rawSet = u.survey.rawSet → v = { u with survey := v.survey })) ∧
        (u.pods.enabled p = true → old.state = .active ∨ old.state = .mismatch ∨ old.state = .joining →
          v.pods.records.get p =
            { old with
              state := .joining, retry := retry, silence := 0, quiet := none, readings := Table.replicate 5 none } ∧
          v.pods.joins = (joinsAnew p [0, 1, 2, 3, 4] u).pods.joins ∧ v.ring = (joinsAnew p [0, 1, 2, 3, 4] u).ring) ∧
        (u.pods.enabled p = true → old.state ≠ .active → old.state ≠ .mismatch → old.state ≠ .joining →
          v.pods.records.get p = { old with retry := retry } ∧
          v.pods.joins = (joinFilled u).pods.joins ∧ v.ring = (joinFilled u).ring)) ∧
        (v.survey.rawSet = u.survey.rawSet ∨ u.ring.tickOpen = true →
          v.link.block = u.link.block ∧ v.link.samples = u.link.samples ∧ v.link.drops = u.link.drops ∧
          v.link.sampleDrops = u.link.sampleDrops) ∧
        (v.survey.rawSet = u.survey.rawSet ∨ u.ring.tickOpen = false → v.link.rawHold = u.link.rawHold) ∧
        (v.survey.rawSet ≠ u.survey.rawSet → u.ring.tickOpen = true →
          v.link.rawHold = some (u.link.rawHold.getD u.survey.rawSet)) ∧
        (v.survey.rawSet ≠ u.survey.rawSet → u.ring.tickOpen = false → BlockClosed u.link.block u.link v.link))) ∧
  (∀ (s u : State) (tag : Byte) (k : Nat) (f : Option GroupFields), Takes s tag (.loadGroup k f) u →
    LoadFollows 8 (u.survey.state ≠ .closed) k (f.bind groupFault)
      (fun r data => exec (.loadGroup tag k f) s = .next (replied tag 0x02 r data u))
      (fun i => exec (.loadGroup tag k f) s =
        .next (replied tag 0x02 .ok [BitVec.ofNat 8 k]
          { u with survey := { u.survey with groups := u.survey.groups.set i f } })))

/-- R6: while the survey is OPEN or CLOSING the five analysis tables are locked against their loads, setting and unsetting,
and no command but HARDWARE_RESET, which clears them and closes the survey, changes an entry. LOAD-TEMPLATE is locked exactly
while a live job uses the template, whatever the survey state. -/
def Obligations.TablesHoldWhileLocked : Prop :=
  (∀ (s u : State) (tag : Byte) (k : Nat), u.survey.state ≠ .closed →
    (∀ f, Takes s tag (.loadChannel k f) u → exec (.loadChannel tag k f) s = .next (replied tag 0x01 .locked [] u)) ∧
    (∀ f, Takes s tag (.loadGroup k f) u → exec (.loadGroup tag k f) s = .next (replied tag 0x02 .locked [] u)) ∧
    (∀ f, Takes s tag (.loadProfile k f) u → exec (.loadProfile tag k f) s = .next (replied tag 0x03 .locked [] u)) ∧
    (∀ f, Takes s tag (.loadBins k f) u → exec (.loadBins tag k f) s = .next (replied tag 0x04 .locked [] u)) ∧
    (∀ f, Takes s tag (.loadPod k f) u → exec (.loadPod tag k f) s = .next (replied tag 0x05 .locked [] u))) ∧
  (∀ (s u : State) (tag : Byte) (k : Nat) (f : Option TemplateFields), Takes s tag (.loadTemplate k f) u →
    ((∃ j ∈ u.printer.jobs, j.template = k) ↔
      exec (.loadTemplate tag k f) s = .next (replied tag 0x06 .locked [] u))) ∧
  (∀ (c : Instr) (s t : State), s.survey.state ≠ .closed → c ≠ .hardwareReset → exec c s = .next t →
    t.survey.channels = s.survey.channels ∧ t.survey.groups = s.survey.groups ∧
    t.events.profiles = s.events.profiles ∧ t.harmonics.binSets = s.harmonics.binSets ∧
    t.pods.table = s.pods.table) ∧
  (∀ s : State, ∃ t, exec .hardwareReset s = .next t ∧ t.survey.state = .closed ∧
    t.survey.channels = Table.replicate 48 none ∧ t.survey.groups = Table.replicate 8 none ∧
    t.events.profiles = Table.replicate 8 none ∧ t.harmonics.binSets = Table.replicate 4 none ∧
    t.pods.table = Table.replicate 12 none)

/-- R7: READ-TABLE answers the table code, the index and the entry as stored, or the mark UNSET, and refuses an unknown table
or an index out of range with BAD_VALUE; it changes nothing but the reply queue, locked or not. The place given for an unknown
table, and the empty data for an index, are the model's (entry 26). R62, R63: READ-KIT answers the kit report of the state as
it stands, 284 bytes whose head holds the summary flags, the pod sets and the ring's mode and turns; READ-SNAPSHOT answers the
latched snapshot with its cause, position and tick, or the mark EMPTY; CLEAR-SNAPSHOT empties it. Nothing else changes. -/
def Obligations.TableKitAndSnapshotRead : Prop :=
  (∀ (s u : State) (tag : Byte) (k i : Nat), Takes s tag (.readTable k i) u →
    let answer (data : List Byte) : Prop := exec (.readTable tag k i) s = .next (replied tag 0x09 .ok data u)
    let refused (data : List Byte) : Prop := exec (.readTable tag k i) s = .next (replied tag 0x09 .badValue data u)
    let head : List Byte := [BitVec.ofNat 8 k, BitVec.ofNat 8 i]
    let reads {α : Type} {n : Nat} (t : Table (Option α) n) (bytes : α → List Byte) : Prop :=
      (i = 0 ∨ n < i → refused []) ∧
      ∀ j : Fin n, i = j.val + 1 →
        (t.get j = none → answer (head ++ [0x00])) ∧ ∀ x, t.get j = some x → answer (head ++ 0x01 :: bytes x)
    (k = 1 → reads u.survey.channels channelBytes) ∧
    (k = 2 → reads u.survey.groups groupBytes) ∧
    (k = 3 → reads u.events.profiles profileBytes) ∧
    (k = 4 → reads u.harmonics.binSets binBytes) ∧
    (k = 5 → reads u.pods.table podEntryBytes) ∧
    (k = 6 → reads u.printer.templates templateBytes) ∧
    (k = 0 ∨ 6 < k → refused [0x01])) ∧
  (∀ (s u : State) (tag : Byte),
    (Takes s tag .readKit u →
      ∃ data, exec (.readKit tag) s = .next (replied tag 0x50 .ok data u) ∧ data = kitBytes u.kit ∧
        data.length = 284 ∧
        (∀ i, i < 7 → (data.getD 0 0).getLsbD i = (summaryFlags u.pods u.ring).getD i false) ∧
        data[19]? = some (BitVec.ofNat 8 (codeRingMode u.ring.mode)) ∧
        data[20]? = some (BitVec.ofNat 8 u.ring.tf) ∧ data[21]? = some (BitVec.ofNat 8 u.ring.tr)) ∧
    (Takes s tag .readSnapshot u →
      (u.pods.snapshot = none → exec (.readSnapshot tag) s = .next (replied tag 0x51 .ok [0x00] u)) ∧
      ∀ x, u.pods.snapshot = some x →
        exec (.readSnapshot tag) s =
          .next (replied tag 0x51 .ok
            (0x01 :: BitVec.ofNat 8 (codeSnapshotCause x.cause) ::
              BitVec.ofNat 8 (x.position.elim 0 fun p => p.val + 1) :: (u48 x.tick ++ kitBytes x.kit)) u)) ∧
    (Takes s tag .clearSnapshot u →
      exec (.clearSnapshot tag) s =
        .next (replied tag 0x52 .ok [] { u with pods := { u.pods with snapshot := none } })))

/-- R10 to R13: OPEN-SURVEY is checked state, live jobs, operands, cross-table, reservation; refused, it changes nothing, and
BAD_VALUE names the lowest bad place (entry 46), BAD_TABLE the item of the first check of R11 that fails; accepted, it closes
the sample block in formation (R184; also between a close and the next tick, entry 73) and opens the survey at tick 0 with the
stores of the analysis chain and of the notes emptied and any emission in progress stopped (R113, R132), each group's
reservation taken from the freed pages, its tracker set afresh by R72 (LOST at its nominal, with its flywheel entries kept),
its event machine QUIET with every member NORMAL (R90), and the summary and accumulators of an analysed group empty (R116). -/
def Obligations.OpenSurveyOpens : Prop :=
  ∀ (s u : State) (tag : Byte) (f : OpenFields), Takes s tag (.openSurvey f) u →
    let answers (r : ResultCode) (data : List Byte) : Prop :=
      exec (.openSurvey tag f) s = .next (replied tag 0x10 r data u)
    (u.survey.state ≠ .closed → answers .badState []) ∧
    (u.survey.state = .closed → u.printer.jobs ≠ [] → answers .busy []) ∧
    (u.survey.state = .closed → u.printer.jobs = [] → ∀ k, openFault f = some k →
      answers .badValue [BitVec.ofNat 8 k]) ∧
    (Openable u ↔ firstBroken u = none) ∧
    (u.survey.state = .closed → u.printer.jobs = [] → openFault f = none → ∀ table index,
      firstBroken u = some (table, index) → answers .badTable [BitVec.ofNat 8 table, BitVec.ofNat 8 index]) ∧
    (u.survey.state = .closed → u.printer.jobs = [] → openFault f = none → Openable u → 64 < pagesNeeded u →
      answers .noRoom [BitVec.ofNat 8 (pagesNeeded u)]) ∧
    (u.survey.state = .closed → u.printer.jobs = [] → openFault f = none → Openable u → pagesNeeded u ≤ 64 →
      ∃ v, exec (.openSurvey tag f) s =
          .next (replied tag 0x10 .ok
            [BitVec.ofNat 8 (f.number / 256), BitVec.ofNat 8 f.number, BitVec.ofNat 8 (pagesNeeded u)] v) ∧
        v.survey = { u.survey with state := .opened, number := some f.number, tick := 0, analysing := true } ∧
        v.ring = u.ring ∧ v.pods = u.pods ∧ v.printer = u.printer ∧
        v.link.notices.getLast? = some ⟨0, .survey .opened (some f.number) .opened⟩ ∧
        BlockClosed u.link.block u.link v.link ∧ v.link.records = u.link.records ∧ v.link.replies = u.link.replies ∧
        v.notes =
          { Notes.reset with
            identity := ⟨some f.number, some f.wall, f.site, f.crew, none⟩
            markLost := u.notes.markLost } ∧
        v.events.profiles = u.events.profiles ∧ v.events.sags = [] ∧ v.events.lastSag = 0 ∧
        v.events.unrecorded = 0 ∧ v.events.emission = none ∧ v.harmonics.emission = none ∧
        v.events.freePages.length = 128 - pagesNeeded u ∧
        (∀ n, ∃ members reserved,
          v.events.groups.get n =
            ⟨[], members, [], .quiet, none, ⟨none, 0, none, none⟩, ⟨none, []⟩, [], [], reserved⟩ ∧
          (u.survey.groups.get n = none → members = [] ∧ reserved = []) ∧
          ∀ g, u.survey.groups.get n = some g →
            members.length = g.members.countP (voltageEntry u.survey) ∧ (∀ m ∈ members, m = ⟨0, 0, false, .normal⟩) ∧
            ∀ p, (ofNumber 8 g.profile).bind u.events.profiles.get = some p →
              reserved.length = (p.pre * g.members.length + 3) / 4) ∧
        v.harmonics.binSets = u.harmonics.binSets ∧ v.harmonics.intervals = [] ∧ v.harmonics.lastInterval = 0 ∧
        v.harmonics.lost = 0 ∧
        (∀ n,
          ((∀ g, u.survey.groups.get n = some g → u.analysedBins g = none) →
            v.harmonics.groups.get n = GroupHarmonics.reset) ∧
          ∀ g bins, u.survey.groups.get n = some g → u.analysedBins g = some bins →
            let members := u.survey.analysed g
            let zeros := List.replicate members.length (List.replicate (bins.orders.length + 1) 0)
            v.harmonics.groups.get n =
              ⟨[], [], false, [], none, ⟨zeros, List.replicate members.length 0, 0, false⟩, ⟨zeros, 0, 0, 0, 0, none⟩,
                ⟨members, bins.orders,
                  List.replicate members.length (List.replicate (bins.orders.length + 1) ⟨0, none, none, 0⟩)⟩⟩) ∧
        ∀ n, (u.survey.groups.get n = none → v.trackers.get n = u.trackers.get n) ∧
          ∀ g, u.survey.groups.get n = some g →
            v.trackers.get n =
              { u.trackers.get n with
                state := .lost, period := if g.nominal = 60 then 1365 else 1638, history := [], intervals := []
                anchor := none, settled := none, run := 0, last := none, before := none, residue := 0, accepted := 0
                flywheelCount := 0, due := none })

/-- R14, R15, R83, R112, R133: CLOSE-SURVEY is taken while the survey is OPEN alone. A boundary already decided is announced in
full first (entry 8). Then the close steps: an event in ACTIVE ends CUT at the close tick, its span joins the completed ones
(R100) and its machine is LATCHED, the post window of one in POST closes at once, and the entry of either is UNSENT with its
record; a pending cycle is settled, the partial block is discarded, and an interval in progress is closed, PARTIAL unless that
settlement completed it. The reply carries the tick count of the close, the analysis stops, and the survey is CLOSING, or
CLOSED when nothing is left to send. -/
def Obligations.CloseSurveyCloses : Prop :=
  ∀ (s u : State) (tag : Byte), Takes s tag .closeSurvey u →
    (u.survey.state ≠ .opened → exec (.closeSurvey tag) s = .next (replied tag 0x11 .badState [] u)) ∧
    (u.survey.state = .opened →
      let w := boundariesPlaced u
      ∃ v, exec (.closeSurvey tag) s = .next (replied tag 0x11 .ok (u48 u.survey.tick) v) ∧
        v.survey = { u.survey with state := v.survey.state, analysing := false } ∧
        v.survey.state =
          (if (∀ e ∈ v.events.sags, e.status.isSent = true) ∧ (∀ e ∈ v.harmonics.intervals, e.sent = true)
           then .closed else .closing) ∧
        v.link.notices.getLast? =
          some ⟨u.survey.tick,
            if v.survey.state = .closed then .survey .closed u.survey.number .drained
            else .survey .closing u.survey.number .close⟩ ∧
        ((∀ n, (u.trackers.get n).due = none) → w = u) ∧ v.trackers = w.trackers ∧
        (∀ n g, u.survey.groups.get n = some g → (v.trackers.get n).due = none) ∧
        (∀ n g, u.survey.groups.get n = some g →
          let old := w.events.groups.get n
          let new := v.events.groups.get n
          (∀ e, old.machine = .active → old.event = some e →
            new.machine = .latched ∧ new.event = none ∧ new.span = spanClosed u.survey.tick old.span ∧
              new.burst.lastStop = some u.survey.tick) ∧
          (∀ e, old.machine = .post → old.event = some e →
            new.machine = (if e.flags.cut then .latched else .quiet) ∧ new.event = none ∧ new.span = old.span) ∧
          (old.machine = .quiet ∨ old.machine = .latched → new = { old with delay := [] })) ∧
        v.events.sags.length = w.events.sags.length ∧
        (let ends (n : Grp) (g : GroupFields) (e : Event) : Prop :=
          u.survey.groups.get n = some g ∧ e.recorded = true ∧
          ∃ k, (w.events.groups.get n).event = some k ∧
            ((w.events.groups.get n).machine = .active ∧
                e = { k with stop := some u.survey.tick, flags := { k.flags with cut := true } } ∨
             (w.events.groups.get n).machine = .post ∧ e = k)
        ∀ (i : Nat) x y, w.events.sags[i]? = some x → v.events.sags[i]? = some y →
          ((∀ n g e, ends n g e → e.number ≠ some x.number) → y = x) ∧
          (∀ n g e, ends n g e → e.number = some x.number →
            ∃ m h k r, ends m h k ∧ k.number = some x.number ∧
              RecordOf m h.members (u.survey.voltageMembers h) k x.number r ∧
              y = { x with status := .unsent false r, pages := k.capture.pages, rows := k.capture.rows })) ∧
        (∀ n g bins, u.survey.groups.get n = some g → u.analysedBins g = some bins →
          let old := w.harmonics.groups.get n
          let new := v.harmonics.groups.get n
          let judged := old.pending.elim old fun c => old.addCycle bins c (overlaps (v.events.groups.get n).span c)
          let whole := old.pending.isSome && decide (2 ^ bins.exponent ≤ judged.interval.total)
          new.pending = none ∧ new.buffer = [] ∧ new.delay = [] ∧ new.block.cycles = 0 ∧ new.block.event = false ∧
          (∀ k ∈ new.block.valid, k = 0) ∧ new.interval.start = none ∧
          (judged.interval.start ≠ none → w.harmonics.intervals.length + 8 ≤ 96 →
            w.harmonics.lastInterval + 8 ≤ 4294967295 →
            ∃ e ∈ v.harmonics.intervals, e.sent = false ∧
              IntervalOf n bins (u.survey.analysed g) (if whole then old.pending.elim 0 fun c => c.stop else u.survey.tick)
                (w.trackers.get n).period (!whole) judged.interval e.record)) ∧
        v.events.profiles = u.events.profiles ∧ v.harmonics.binSets = u.harmonics.binSets ∧
        v.ring = u.ring ∧ v.pods = u.pods ∧ v.notes = u.notes ∧ v.printer = u.printer ∧
        v.link.replies = u.link.replies)

/-- R16, R41, R56, R64, R113, R134, R171, R188: RESTART, taken in every survey state. A boundary already decided is announced
in full first, and its notices are emptied away (R83, entry 8). The survey is CLOSED with the tick count running, the search
begins anew with the request slot free, and every pod not DISABLED is switched off under COMMANDED, a DISABLED one keeping its
off reasons (entry 57). Events and intervals in progress are discarded: the OPEN entries of the events are gone, their capture
pages and every reservation are free again (entry 16), and the accumulators are empty, the half-cycle sums, gap counts and clip
marks with them (entry 58), while the retained stores and the summaries stay. The print jobs are gone and with them their pins.
The link keeps all but its sample and notice queues, whose frames are counted as R188 says; then RESTART's own notices are
offered, of the survey, the ring, the pods by rising position and the jobs oldest first (entry 30), the oldest being dropped
and counted beyond 16 (R187). A host transaction in the slot is answered ABORTED before RESTART's own OK; the overrun count
rides on the first of the two replies, and the OK then carries 0 (R179). -/
def Obligations.RestartRestarts : Prop :=
  ∀ (s u : State) (tag : Byte), Takes s tag .restart u →
    let w := boundariesPlaced u
    ∃ v, exec (.restart tag) s = .next (replied tag 0x12 .ok [] v) ∧
      v.survey = { u.survey with state := .closed, analysing := false } ∧
      v.ring =
        { u.ring with mode := .search, lossForward := 0, lossReverse := 0, modeTicks := 0, search := .start,
                      trialDue := false, request := none } ∧
      v.pods.table = u.pods.table ∧ v.pods.joins = [] ∧ v.pods.snapshot = u.pods.snapshot ∧
      v.pods.drained = u.pods.drained ∧
      (∀ p, (u.pods.records.get p).state = .disabled →
        v.pods.records.get p = { u.pods.records.get p with silence := 0, powering := 0, mark := false }) ∧
      (∀ p, (u.pods.records.get p).state ≠ .disabled →
        v.pods.records.get p =
          { u.pods.records.get p with
            state := .off .offTime .commanded
            silence := 0
            powering := 0
            mark := false
            fault := 0#16
            quiet := none
            reasons := (u.pods.records.get p).reasons ||| 0x10#8
            lastReason := some .commanded
            timer := some ⟨0, ((u.pods.table.get p).elim 0 fun e => e.offTime) * 1024 / 100⟩ }) ∧
      ((∀ n, (u.trackers.get n).due = none) → w = u) ∧ v.trackers = w.trackers ∧
      (∀ n g, u.survey.groups.get n = some g → (v.trackers.get n).due = none) ∧
      (∀ n,
        let old := w.events.groups.get n
        v.events.groups.get n =
          { old with
            event := none, delay := [], buffer := [], ring := [], ringLengths := [], reserved := []
            members := old.members.map fun m => ⟨0, 0, false, m.condition⟩ }) ∧
      (let discarded (e : SagEntry) : Bool :=
        decide (e.status = .opened) &&
          (indexes 8).any fun n => (w.events.groups.get n).event.any fun k => decide (k.number = some e.number)
      v.events =
        { w.events with
          groups := v.events.groups
          freePages :=
            w.events.freePages ++ (indexes 8).flatMap fun n =>
              ((w.events.groups.get n).event.elim [] fun e => e.capture.pages) ++ (w.events.groups.get n).reserved
          sags :=
            (w.events.sags.filter fun e => !discarded e).map fun e =>
              if e.status = .opened then e
              else { e with pins := e.pins - u.printer.jobs.countP fun j => j.sags.contains e.number } }) ∧
      v.events.profiles = u.events.profiles ∧
      (∀ n,
        let new := v.harmonics.groups.get n
        new.pending = none ∧ new.buffer = [] ∧ new.halves = [] ∧ new.delay = [] ∧ new.overlong = false ∧
        new.block.cycles = 0 ∧ new.block.event = false ∧ (∀ k ∈ new.block.valid, k = 0) ∧ new.interval.start = none ∧
        new.interval.total = 0 ∧ new.interval.used = 0 ∧ new.interval.flagged = 0 ∧ new.interval.invalid = 0 ∧
        (∀ l ∈ new.block.sums ++ new.interval.sums, ∀ k ∈ l, k = 0) ∧
        new.summary = (w.harmonics.groups.get n).summary) ∧
      v.harmonics =
        { w.harmonics with
          groups := v.harmonics.groups
          intervals :=
            w.harmonics.intervals.map fun e =>
              { e with pins := e.pins - u.printer.jobs.countP fun j => j.intervals.contains e.record.number } } ∧
      v.notes = u.notes ∧
      v.printer = { u.printer with jobs := [], exchange := .idle, lineBuffer := [] } ∧
      (let closed : List NoticeBody :=
        if u.survey.state = .closed then [] else [.survey .closed u.survey.number .restart]
      let ring : NoticeBody :=
        .ring .search .restart u.ring.tf u.ring.tr u.ring.loopForward u.ring.loopReverse u.ring.unreachable
      let flags (p : Pos) : List Bool :=
        summaryFlags
          { u.pods with records :=
            Table.tabulate 12 fun q => if q ≤ p then v.pods.records.get q else u.pods.records.get q } u.ring
      let pods : List NoticeBody :=
        ((indexes 12).filter fun p => decide ((u.pods.records.get p).state ≠ .disabled)).map fun p =>
          .pod p (u.pods.records.get p).state (.off .offTime .commanded) .commanded (u.pods.records.get p).retry (flags p)
      let jobs : List NoticeBody := u.printer.jobs.map fun j => .job j.number .cancelledRestart j.copy
      let offered := (closed ++ ring :: (pods ++ jobs)).map fun b => (⟨u.survey.tick, b⟩ : Notice)
      v.link =
        { w.link with
          samples := []
          drops := min (w.link.drops + w.link.samples.length) 255
          sampleDrops := min (w.link.sampleDrops + w.link.samples.length) 65535
          notices := offered.drop (offered.length - 16)
          lostNotices := min (w.link.lostNotices + w.link.notices.length + (offered.length - 16)) 255
          noticeLosses := min (w.link.noticeLosses + w.link.notices.length + (offered.length - 16)) 65535
          replies := v.link.replies
          reserved := v.link.reserved
          overrun := v.link.overrun }) ∧
      (∀ t a b x y, u.ring.request = some t → t.client = .host a b → u.link.reserved = some (x, y) →
        v.link.reserved = none ∧ v.link.replies = u.link.replies ++ [⟨x, y, .aborted, [], u.link.overrun⟩] ∧
        v.link.overrun = 0) ∧
      ((∀ t ∈ u.ring.request, t.client = .join) ∨ u.link.reserved = none →
        v.link.reserved = u.link.reserved ∧ v.link.replies = u.link.replies ∧ v.link.overrun = u.link.overrun)

/-- R6, R17, R23, R41, R63, R64, R83, R113, R134, R151, R154, R172, R189: what HARDWARE_RESET leaves, block by block, as far as
the rules give it. The queue of waiting commands and the levels of the feed-drained pins stay, which is the model's choice
(entries 9 and 10). -/
def Obligations.HardwareResetResets : Prop :=
  ∀ s : State, ∃ t, exec .hardwareReset s = .next t ∧
    t.pending = s.pending ∧ t.pods.drained = s.pods.drained ∧
    t.survey.channels = Table.replicate 48 none ∧ t.survey.groups = Table.replicate 8 none ∧
    t.survey.state = .closed ∧ t.survey.number = none ∧ t.survey.tick = 0 ∧ t.survey.analysing = false ∧
    t.ring.mode = .search ∧ t.ring.sweepNumber = 0 ∧ t.ring.tf = 0 ∧ t.ring.tr = 0 ∧ t.ring.lastSettled = none ∧
    t.ring.lossForward = 0 ∧
    t.ring.lossReverse = 0 ∧ t.ring.modeTicks = 0 ∧ t.ring.unreachable = Table.replicate 12 false ∧
    t.ring.loopForward = Table.replicate 12 false ∧ t.ring.loopReverse = Table.replicate 12 false ∧
    t.ring.turnForward = none ∧ t.ring.turnReverse = none ∧ t.ring.scanCurrent = none ∧ t.ring.scanMax = 0 ∧
    t.ring.scanMin = none ∧ t.ring.lost = 0 ∧ t.ring.switches = 0 ∧ t.ring.request = none ∧
    t.ring.lastTransaction = 255 ∧ t.ring.latches = Table.replicate 48 ⟨0, true, false⟩ ∧
    t.pods.table = Table.replicate 12 none ∧ t.pods.joins = [] ∧ t.pods.snapshot = none ∧
    (∀ p, (t.pods.records.get p).state = .disabled ∧ (t.pods.records.get p).fault = 0#16 ∧
      (t.pods.records.get p).history = 0#16 ∧ (t.pods.records.get p).reasons = 0#8 ∧
      (t.pods.records.get p).lastReason = none ∧ (t.pods.records.get p).retry = 0 ∧
      (t.pods.records.get p).silence = 0 ∧ (t.pods.records.get p).powering = 0 ∧
      (t.pods.records.get p).mark = false ∧ (t.pods.records.get p).readings = Table.replicate 5 none) ∧
    t.pods.pMax = 0 ∧ summaryFlags t.pods t.ring = List.replicate 7 false ∧
    (∀ n,
      let x := t.trackers.get n
      x.state = .lost ∧ x.period = 1638 ∧ frequency x.period = 50012 ∧ x.history = [] ∧ x.settled = none ∧ x.run = 0 ∧
      x.residue = 0 ∧ x.nextLength = 102 ∧ x.last = none ∧ x.before = none ∧ x.anchor = none ∧ x.intervals = [] ∧
      x.accepted = 0 ∧ x.flywheelCount = 0 ∧ x.flywheelEntries = 0) ∧
    t.events.profiles = Table.replicate 8 none ∧ t.events.sags = [] ∧ t.events.lastSag = 0 ∧
    t.events.freePages.length = 128 ∧ t.events.unrecorded = 0 ∧ t.events.emission = none ∧
    (∀ n,
      let g := t.events.groups.get n
      g.delay = [] ∧ g.buffer = [] ∧ g.machine = .quiet ∧ g.event = none ∧ (∀ m ∈ g.members, m.condition = .normal) ∧
      g.ring = [] ∧ g.ringLengths = [] ∧ g.reserved = [] ∧ g.burst.id = none ∧ g.burst.lastStop = none ∧
      g.span.start = none ∧ g.span.spans = []) ∧
    t.harmonics.binSets = Table.replicate 4 none ∧ t.harmonics.intervals = [] ∧ t.harmonics.lastInterval = 0 ∧
    t.harmonics.lost = 0 ∧ t.harmonics.emission = none ∧
    (∀ n,
      let g := t.harmonics.groups.get n
      g.delay = [] ∧ g.buffer = [] ∧ g.halves = [] ∧ g.pending = none ∧ g.overlong = false ∧ g.block.cycles = 0 ∧
      g.block.event = false ∧ g.block.sums = [] ∧ g.block.valid = [] ∧ g.interval = ⟨[], 0, 0, 0, 0, none⟩ ∧
      g.summary.cells = []) ∧
    t.notes.identity = ⟨none, none, none, none, none⟩ ∧ t.notes.notes = [] ∧ t.notes.segments = [] ∧
    t.notes.kept = [] ∧ t.notes.pending = [] ∧ t.notes.markLost = 0 ∧ t.notes.lastMark = Table.replicate 12 none ∧
    t.printer.templates = Table.replicate 4 none ∧ t.printer.settings = ⟨2, 1000, 30, 70, 60, 10⟩ ∧
    t.printer.jobs = [] ∧ t.printer.lastJob = 0 ∧ t.printer.status = none ∧ t.printer.answering = .unknown ∧
    t.printer.hot = false ∧ t.printer.exchange = .idle ∧ t.printer.lineBuffer = [] ∧
    t.link.receiver = .hunting false ∧ t.link.directives = [] ∧ t.link.overrun = 0 ∧ t.link.replies = [] ∧ t.link.reserved = none ∧
    t.link.notices = [] ∧ t.link.lostNotices = 0 ∧ t.link.records = [] ∧ t.link.samples = [] ∧ t.link.drops = 0 ∧
    t.link.block = none ∧ t.link.transmitting = none ∧ t.link.grant = 8 ∧ t.link.grantCount = 0 ∧
    t.link.sequence = 0 ∧ t.link.linkErrors = 0 ∧ t.link.overruns = 0 ∧ t.link.sampleDrops = 0 ∧
    t.link.noticeLosses = 0

/-- R181 (with R37, R64, R82, R128, R148): CLEAR-COUNTERS, taken in every survey state, sets the counters of every block to 0
and changes nothing else; the counts waiting to ride on frames stay. R129: CLEAR-PEAKS refuses a group outside 1..8;
otherwise, in every survey state, every peak of the group becomes 0, every minimum absent and every exceedance count 0, the
last ratios are kept, and the reply gives the group. A group that holds no harmonic state is answered OK and changes
nothing. -/
def Obligations.CountersAndPeaksClear : Prop :=
  (∀ (s u : State) (tag : Byte), Takes s tag .clearCounters u →
    ∃ v, exec (.clearCounters tag) s = .next (replied tag 0x53 .ok [] v) ∧
      v.survey = u.survey ∧ v.events = u.events ∧ v.printer = u.printer ∧ v.pending = u.pending ∧
      v.link = { u.link with linkErrors := 0, overruns := 0, sampleDrops := 0, noticeLosses := 0 } ∧
      v.ring = { u.ring with scanCurrent := none, scanMax := 0, scanMin := none, lost := 0, switches := 0 } ∧
      v.pods = { u.pods with records := v.pods.records } ∧
      (∀ p, v.pods.records.get p = { u.pods.records.get p with history := 0#16, reasons := 0#8 }) ∧
      (∀ n, v.trackers.get n = { u.trackers.get n with flywheelEntries := 0 }) ∧
      v.harmonics = { u.harmonics with groups := v.harmonics.groups } ∧
      (∀ n, v.harmonics.groups.get n =
        { u.harmonics.groups.get n with
          summary :=
            { (u.harmonics.groups.get n).summary with
              cells := (u.harmonics.groups.get n).summary.cells.map fun l =>
                l.map fun c => ⟨c.peak, c.minimum, c.ratio, 0⟩ } }) ∧
      v.notes = { u.notes with markLost := 0 }) ∧
  (∀ (s u : State) (tag : Byte) (k : Nat), Takes s tag (.clearPeaks k) u →
    (k = 0 ∨ 8 < k → exec (.clearPeaks tag k) s = .next (replied tag 0x54 .badValue [] u)) ∧
    ∀ n : Grp, k = n.val + 1 →
      ∃ v, exec (.clearPeaks tag k) s = .next (replied tag 0x54 .ok [BitVec.ofNat 8 k] v) ∧
        v = { u with harmonics := { u.harmonics with groups := v.harmonics.groups } } ∧
        (∀ m, m ≠ n → v.harmonics.groups.get m = u.harmonics.groups.get m) ∧
        v.harmonics.groups.get n =
          { u.harmonics.groups.get n with
            summary :=
              { (u.harmonics.groups.get n).summary with
                cells := (u.harmonics.groups.get n).summary.cells.map fun l =>
                  l.map fun c => ⟨0, none, c.ratio, 0⟩ } } ∧
        ((u.harmonics.groups.get n).summary.cells = [] → v = u))

/-! ## The pod ring (02) -/

/-- R9, R23, R40: a tick begins only while none is open. The survey tick count goes on by one and holds at its limit, the sweep
number goes on modulo 65536, and the age of the transaction in the slot, a host's or a join, grows by one. So does every timer
that runs: the off, drain, cooldown and quiet timers of the pods (R54, R55), the ticks of REVERSE, SPLIT and DOWN (R34, R35),
the print exchange and the held count of its job (R166 to R169), and the byte gap of a frame in hand (R175). Nothing else
changes but the sweeps. What is still due is taken first, in the order of the model's choice (entry 4); it is the model's
choice too that no time limit runs between the two sync bytes, so that a receiver that has seen the first stays so (entry 55),
and that the step does nothing in an open tick (entry 6). R21, R24, R30, R31, R34: the sweeps that a begun tick dispatches, by
the mode it begins in. A search at its start goes on to the forward probe turned at P_max; else the search stands as it did. A
sweep is full when it goes forward and turns at P_max (R33). Its path holds the enabled positions before its turn, its turn
included; a regular sweep carries the transaction of the slot when its path includes the target, in SPLIT too (entry 51); a
probe carries none. On a healing tick nothing but the trial is due: one forward sweep turned at P_max, which carries the
transaction of the slot when its path includes the target and changes nothing else; no trial goes where none is due. That the
trial is a step of its own in the begun tick is entry 36. -/
def Obligations.TicksBeginAndDispatch : Prop :=
  (∀ s : State,
    (s.ring.tickOpen = true → exec .tickStart s = .next s) ∧
    (s.ring.tickOpen = false →
      ∃ t, exec .tickStart s = .next t ∧
        t.survey = { s.survey with tick := min (s.survey.tick + 1) (2 ^ 48 - 1) } ∧
        t.ring.tickOpen = true ∧ t.ring.sweepNumber = (s.ring.sweepNumber + 1) % 65536 ∧
        t.ring.latches = s.ring.latches ∧ t.notes = s.notes ∧ t.pods.table = s.pods.table ∧
        t.pods.drained = s.pods.drained ∧ t.printer.templates = s.printer.templates ∧
        t.printer.settings = s.printer.settings ∧ t.link.directives = s.link.directives ∧
        t.link.grant = s.link.grant ∧ t.link.block = s.link.block ∧
        (∀ armed, s.link.receiver = .hunting armed → t.link.receiver = .hunting armed) ∧
        (∀ body gap, s.link.receiver = .inFrame body gap → gap ≤ 1024 → t.link.receiver = .inFrame body (gap + 1)) ∧
        (∀ x, s.ring.request = some x → x.age < 2048 → x.client ≠ .join →
          t.ring.request = some { x with age := x.age + 1 })) ∧
    (s.ring.tickOpen = false →
      let u := dueTaken s
      ((∀ c ∈ timedCommands, exec c s = .next s) → u = s) ∧
      ∃ ring : Ring,
        exec .tickStart s =
          .next { u with
            survey := { u.survey with tick := min (u.survey.tick + 1) (2 ^ 48 - 1) }
            pods := { u.pods with records := Table.tabulate 12 fun p => agedPod (u.pods.records.get p) }
            printer := agedPrinter u.printer
            link := { u.link with receiver := agedReceiver u.link.receiver }
            ring := ring } ∧
        ring = { u.ring with
          tickOpen := true
          sweepNumber := (u.ring.sweepNumber + 1) % 65536
          modeTicks :=
            if u.ring.mode = .reverse ∨ u.ring.mode = .split ∨ u.ring.mode = .down then u.ring.modeTicks + 1
            else u.ring.modeTicks
          request := u.ring.request.map fun x => { x with age := x.age + 1 }
          search :=
            if u.ring.mode = .search ∧ u.ring.search = .start ∧ u.pods.pMax ≠ 0 then .forwardProbe u.pods.pMax
            else u.ring.search
          sweeps := ring.sweeps, trialDue := ring.trialDue })) ∧
  (∀ s t : State, s.ring.tickOpen = false → exec .tickStart s = .next t →
      let u := dueTaken s
      let sweep (kind : SweepKind) (d : Direction) (turn : Nat) (w : Sweep) : Prop :=
        w.kind = kind ∧ w.direction = d ∧ w.turn = turn ∧ w.returned = none ∧
        (w.full = true ↔ d = .forward ∧ turn = t.pods.pMax) ∧
        (∀ p, p ∈ w.path ↔ t.pods.enabled p = true ∧
          (d = .forward → p.val + 1 ≤ turn) ∧ (d = .reverse → turn ≤ p.val + 1)) ∧
        (∀ x, w.request = some x ↔ kind ≠ .probe ∧ t.ring.request = some x ∧ x.target ∈ w.path)
      let healing : Prop := 0 < t.ring.modeTicks ∧ t.ring.modeTicks % 10240 = 0
      (t.ring.mode = .forward → t.pods.pMax ≠ 0 →
        ∃ w, t.ring.sweeps = [w] ∧ sweep .regular .forward t.pods.pMax w) ∧
      (t.ring.mode = .forward → t.pods.pMax = 0 → t.ring.sweeps = []) ∧
      (t.ring.mode = .reverse → ¬healing → ∃ w, t.ring.sweeps = [w] ∧ sweep .regular .reverse 1 w) ∧
      (t.ring.mode = .split → ¬healing → t.ring.tf ≠ 0 → t.ring.tr ≠ 0 →
        ∃ w x, t.ring.sweeps = [w, x] ∧ sweep .regular .forward t.ring.tf w ∧ sweep .regular .reverse t.ring.tr x) ∧
      (t.ring.mode = .split → ¬healing → t.ring.tf ≠ 0 → t.ring.tr = 0 →
        ∃ w, t.ring.sweeps = [w] ∧ sweep .regular .forward t.ring.tf w) ∧
      (t.ring.mode = .split → ¬healing → t.ring.tf = 0 → t.ring.tr ≠ 0 →
        ∃ w, t.ring.sweeps = [w] ∧ sweep .regular .reverse t.ring.tr w) ∧
      (t.ring.mode = .reverse ∨ t.ring.mode = .split → healing → t.ring.sweeps = [] ∧ t.ring.trialDue = true) ∧
      (t.ring.trialDue = true → (t.ring.mode = .reverse ∨ t.ring.mode = .split) ∧ healing) ∧
      (t.ring.mode = .down → t.ring.sweeps = []) ∧
      (s.ring.mode = .search → u.ring.mode = .search ∧ u.ring.search = s.ring.search) ∧
      (t.ring.mode = .search → u.ring.search = .start → t.pods.pMax = 0 → t.ring.sweeps = []) ∧
      (t.ring.mode = .search → u.ring.search = .start → t.pods.pMax ≠ 0 →
        ∃ w, t.ring.sweeps = [w] ∧ sweep .probe .forward t.pods.pMax w) ∧
      (∀ k, t.ring.mode = .search → u.ring.search = .forwardProbe k →
        ∃ w, t.ring.sweeps = [w] ∧ sweep .probe .forward k w) ∧
      (∀ f k, t.ring.mode = .search → u.ring.search = .reverseProbe f k →
        ∃ w, t.ring.sweeps = [w] ∧ sweep .probe .reverse k w)) ∧
  (∀ s : State,
      (s.ring.tickOpen = true → s.ring.trialDue = true →
        ∃ w, exec .trialSweep s = .next { s with ring := { s.ring with trialDue := false, sweeps := [w] } } ∧
          w.kind = .trial ∧ w.direction = .forward ∧ w.turn = s.pods.pMax ∧ w.full = true ∧ w.returned = none ∧
          (∀ p, p ∈ w.path ↔ s.pods.enabled p = true) ∧
          (∀ x, w.request = some x ↔ s.ring.request = some x ∧ s.pods.enabled x.target = true)) ∧
      (s.ring.tickOpen = false ∨ s.ring.trialDue = false → exec .trialSweep s = .next s))

/-- R25, R37, R190: a frame is taken as the return of an awaited sweep when it arrives in an open tick within 80 µs, at the
port the sweep left, 147 bytes long with a passing check sequence, and with its sweep number and direction. Its slots and its
scan time are kept; without an answer for the transaction in the slot nothing else changes. Any other frame changes nothing;
outside an open tick, or with a scan time above 80 µs, it comes too late (entry 6). -/
def Obligations.SweepReturnTaken : Prop :=
  ∀ (s : State) (port : Port) (frame : List Byte) (scan : Nat),
    let intact : Prop := frame.length = 147 ∧ (crc (frame.take 145)).toNat = beNat (frame.drop 145)
    let mine (w : Sweep) : Prop :=
      w.returned = none ∧ beNat (frame.take 2) = s.ring.sweepNumber ∧
      ((w.direction = .forward ∧ port = .forwardPort ∧ frame[2]? = some 0x00) ∨
       (w.direction = .reverse ∧ port = .returnPort ∧ frame[2]? = some 0x01))
    (s.ring.tickOpen = true → scan ≤ 800 → intact → (∃ w ∈ s.ring.sweeps, mine w) →
      (∀ x ∈ s.ring.request, frameAnswer frame x = none) →
      ∃ l, exec (.sweepReturn port frame scan) s =
          .next { s with ring :=
            { s.ring with
              sweeps := l
              scanCurrent := some scan
              scanMax := max s.ring.scanMax scan
              scanMin := some (s.ring.scanMin.elim scan fun m => min m scan) } } ∧
        l.length = s.ring.sweeps.length ∧
        ∀ (i : Nat) w, s.ring.sweeps[i]? = some w →
          (mine w → l[i]? = some { w with returned := some ((List.range 12).map (readSlot frame)) }) ∧
          (¬mine w → l[i]? = some w)) ∧
    (s.ring.tickOpen = false ∨ 800 < scan ∨ ¬intact ∨ (∀ w ∈ s.ring.sweeps, ¬mine w) →
      exec (.sweepReturn port frame scan) s = .next s)

/-- R39, R40, R58: how a host transaction ends. An answer DONE that a returned sweep brings back replies OK with the value, a
REFUSED one POD_REFUSED with the code; the 2,048th tick after its placement replies NO_ANSWER. The reserved entry has become
full, and the freed slot takes the first of the join transactions that wait, if any does. After a range write to an ACTIVE pod
the pod joins again (R50): its readings are emptied, its quiet timer is stopped, its silence count is 0, a POD notice of cause
REJOIN is offered, its own waiting joins are withdrawn, and its five reads wait in order of position with the others; nothing
else changes. A timeout that is not due changes nothing (entries 1 and 5); the client acts before the slot is filled again
(entry 13), and a join read placed then carries the value 0, which is the model's choice (entry 53). -/
def Obligations.HostTransactionEnds : Prop :=
  ∀ (s : State) (x : Transaction) (a b tag code : Byte),
    s.ring.request = some x → x.client = .host a b → s.link.reserved = some (tag, code) →
    let ended (r : ResultCode) (data : List Byte) (ring : Ring) : State :=
      replied tag code r data
        (joinPlaced { s with ring := { ring with request := none }, link := { s.link with reserved := none } })
    (∀ port frame scan, s.ring.awaits port frame scan = true →
      let ring := (s.ring.markReturned port frame).scanned scan
      frame[4]? = some (BitVec.ofNat 8 (x.target.val + 1)) → frame[5]? = some (BitVec.ofNat 8 x.number) →
      x.number < 256 →
      (frame[10]? = some 0x02 →
        exec (.sweepReturn port frame scan) s =
          .next (ended .podRefused (u16 (beNat ((frame.drop 11).take 2))) ring)) ∧
      (frame[10]? = some 0x01 →
        ∃ t, exec (.sweepReturn port frame scan) s = .next t ∧ t.link.reserved = none ∧
          t.link.replies =
            s.link.replies ++ [⟨tag, code, .ok, u16 (beNat ((frame.drop 11).take 2)), s.link.overrun⟩] ∧
          (¬(x.op = .write ∧ 1 ≤ x.parameter ∧ x.parameter ≤ 4 ∧ (s.pods.records.get x.target).state = .active) →
            t = ended .ok (u16 (beNat ((frame.drop 11).take 2))) ring) ∧
          (x.op = .write → 1 ≤ x.parameter → x.parameter ≤ 4 → (s.pods.records.get x.target).state = .active →
            t =
              replied tag code .ok (u16 (beNat ((frame.drop 11).take 2)))
                (podNoticed x.target .active .rejoin
                  (withRecord x.target
                    { s.pods.records.get x.target with
                      state := .joining, silence := 0, quiet := none, readings := Table.replicate 5 none }
                    (joinsAnew x.target [0, 1, 2, 3, 4]
                      { s with
                        ring := { ring with request := none }
                        link := { s.link with reserved := none } }))) ∧
            let waiting := s.pods.joins.filter fun j => decide (j.position ≠ x.target)
            ∃ y, t.ring.request = some y ∧ y.client = .join ∧ y.number = (s.ring.lastTransaction + 1) % 256 ∧
              ((∀ j ∈ waiting, x.target < j.position) →
                y.target = x.target ∧ y.op = .joinRead ∧ y.parameter = 0 ∧
                t.pods.joins = [1, 2, 3, 4].map (fun k => ⟨x.target, k⟩) ++ waiting) ∧
              (∀ j rest, waiting = j :: rest → j.position < x.target →
                y = joinTransaction j ((s.ring.lastTransaction + 1) % 256))))) ∧
    (s.ring.tickOpen = false → 2048 ≤ x.age → exec .transactionTimeout s = .next (ended .noAnswer [] s.ring)) ∧
    (s.ring.tickOpen = true ∨ x.age < 2048 → exec .transactionTimeout s = .next s)

/-- R39, R40, R47 to R49: how a join transaction of a pod in JOINING ends. A read answered DONE is stored in its reading; the
fifth one has the readings compared with the tables (R44, R48; a channel that is not mapped is compared in no case, entry 65),
and the join write of parameter 5 waits on a match, while the pod moves to MISMATCH otherwise; the confirmed write moves the
pod to ACTIVE with its quiet timer started, within the tick (entry 52); a REFUSED answer, or no answer while the position is
reachable, is the fatal cause NO_JOIN; no answer while it is unreachable sends it back to POWERING; either of these withdraws
the pod's joins that wait. Then the freed slot takes the first of those that wait, which stand in order of position, then
parameter (entry 13; a read carries the value 0, entry 53). The timeout comes once the tick has closed (entry 5). -/
def Obligations.JoinTransactionEnds : Prop :=
  (let inOrder (a b : JoinTransaction) : Prop :=
    a.position < b.position ∨ (a.position = b.position ∧ a.parameter ≤ b.parameter)
  ∀ (j : JoinTransaction) (l : List JoinTransaction),
    (∀ k, k ∈ queueJoin j l ↔ k = j ∨ k ∈ l) ∧ (queueJoin j l).length = l.length + 1 ∧
    (l.Pairwise inOrder → (queueJoin j l).Pairwise inOrder)) ∧
  (∀ (s : State) (x : Transaction),
    s.ring.request = some x → x.client = .join →
    (s.pods.records.get x.target).state = .joining →
    let others (t : State) : Prop :=
      (∀ q, q ≠ x.target → t.pods.records.get q = s.pods.records.get q) ∧ t.pods.table = s.pods.table ∧
      t.survey = s.survey ∧ t.trackers = s.trackers ∧ t.events = s.events ∧ t.harmonics = s.harmonics ∧
      t.notes = s.notes ∧ t.printer = s.printer ∧ t.link.replies = s.link.replies ∧ t.link.records = s.link.records
    let left := s.pods.joins.filter fun j => decide (j.position ≠ x.target)
    let refilled (t : State) : Prop :=
      (left = [] → t.ring.request = none ∧ t.pods.joins = []) ∧
      ∀ j rest, left = j :: rest →
        t.ring.request = some (joinTransaction j ((s.ring.lastTransaction + 1) % 256)) ∧ t.pods.joins = rest
    (∀ port frame scan, s.ring.awaits port frame scan = true →
      let freed : State :=
        { s with ring := { (s.ring.markReturned port frame).scanned scan with request := none } }
      (∀ v k, frameAnswer frame x = some (.answered v) → x.op = .joinRead → k.val = x.parameter →
        (∃ j, j ≠ k ∧ (s.pods.records.get x.target).readings.get j = none) →
        exec (.sweepReturn port frame scan) s =
          .next (joinPlaced (withRecord x.target
            { s.pods.records.get x.target with
              readings := (s.pods.records.get x.target).readings.set k (some v) } freed))) ∧
      (∀ v k, frameAnswer frame x = some (.answered v) → x.op = .joinRead → k.val = x.parameter →
        (∀ j, j ≠ k → (s.pods.records.get x.target).readings.get j ≠ none) →
        let readings := (s.pods.records.get x.target).readings.set k (some v)
        let stored := { s.pods.records.get x.target with readings := readings }
        let agrees : Prop :=
          readings.get 0 = some (s.pods.entry x.target).typeCode ∧
          ∀ (i : Fin 4) (c : Chan) m, c.val = x.target.val * 4 + i.val → s.survey.channels.get c = some (.mapped m) →
            (decodeType (s.pods.entry x.target).typeCode)[i.val]? = some (some m.kind) ∧
            readings.get i.succ = some m.range
        (agrees →
          exec (.sweepReturn port frame scan) s =
            .next (joinPlaced (withRecord x.target stored
              { freed with pods := { s.pods with joins := queueJoin ⟨x.target, 5⟩ s.pods.joins } }))) ∧
        (¬agrees →
          exec (.sweepReturn port frame scan) s =
            .next (joinPlaced (podNoticed x.target .joining .mismatch
              (withRecord x.target { stored with state := .mismatch } freed))))) ∧
      (∀ v, frameAnswer frame x = some (.answered v) → x.op = .joinWrite →
        exec (.sweepReturn port frame scan) s =
          .next (joinPlaced (podNoticed x.target .joining .joined
            (withRecord x.target
              { s.pods.records.get x.target with state := .active, silence := 0, quiet := some 0 } freed)))) ∧
      (∀ c, frameAnswer frame x = some (.refused c) →
        ∃ t, exec (.sweepReturn port frame scan) s = .next t ∧
          (t.pods.records.get x.target).state = .off .offTime .policy ∧
          (t.pods.records.get x.target).lastReason = some .noJoin ∧ refilled t ∧ others t)) ∧
    (s.ring.tickOpen = false → 2048 ≤ x.age →
      ∃ t, exec .transactionTimeout s = .next t ∧ refilled t ∧ others t ∧
        (s.ring.unreachable.get x.target = true →
          (t.pods.records.get x.target).state = .powering ∧ (t.pods.records.get x.target).powering = 0 ∧
          (t.pods.records.get x.target).reasons = (s.pods.records.get x.target).reasons) ∧
        (s.ring.unreachable.get x.target = false →
          (t.pods.records.get x.target).state = .off .offTime .policy ∧
          (t.pods.records.get x.target).lastReason = some .noJoin)))

/-- R26 (with R21, R22, R34): the latches at the close of a tick. A channel is fresh when every regular sweep of the tick came
back, the slot of its position came back present, its pod is ACTIVE, the position is reachable (or a trial sweep came back)
and its CLAMP_OPEN is clear; it takes its sample, the gap flag clear and the clip flag from OVERLOAD. Any other channel keeps
its value with the gap flag set and the clip flag clear. The sweeps of the tick are done with; without an open tick nothing
changes (entry 6). -/
def Obligations.LatchesAtClose : Prop :=
  ∀ s : State,
    (s.ring.tickOpen = false → exec .tickClose s = .next s) ∧
    (s.ring.tickOpen = true →
      ∃ t, exec .tickClose s = .next t ∧ t.ring.tickOpen = false ∧ t.ring.sweeps = [] ∧ t.ring.trialDue = false ∧
        t.survey.tick = s.survey.tick ∧
        ∀ (c : Chan) (p : Pos) (k : Nat), c.val = p.val * 4 + k → k < 4 →
          let fresh (w : Slot) : Prop :=
            w.present = true ∧ (s.pods.records.get p).state = .active ∧
            (s.ring.unreachable.get p = false ∨ TrialBack s.ring) ∧ w.status.getLsbD k = false
          let held : Latch := ⟨(s.ring.latches.get c).value, true, false⟩
          (∀ w, SlotBack s.ring p w → fresh w →
            t.ring.latches.get c = ⟨w.samples.getD k 0, false, w.status.getLsbD (4 + k)⟩) ∧
          (∀ w, SlotBack s.ring p w → ¬fresh w → t.ring.latches.get c = held) ∧
          ((∃ x ∈ s.ring.sweeps, x.kind = .regular ∧ x.returned = none) → t.ring.latches.get c = held) ∧
          (NoSlot s.ring p → t.ring.latches.get c = held))

/-- R184 to R186 (with R18, R26): the block in formation at the close of a tick. Each tick adds the values and gap flags of
the RAW channels, as the close leaves their latches, to the block, which starts with its first tick; a tick in which
LOAD-CHANNEL changed the RAW set is taken with the old set and closes the block, and so does its 32nd tick. A closed block
becomes one sample frame for every seven channels, offered in order: the first accepted takes the drop count, and those that
find 32 waiting are dropped and counted. With no RAW channel no tick is added. -/
def Obligations.SampleBlocksForm : Prop :=
  ∀ s : State, s.ring.tickOpen = true →
    ∃ t, exec .tickClose s = .next t ∧ t.link.rawHold = none ∧
      let raw := s.link.rawHold.getD s.survey.rawSet
      let row := raw.map fun c => ((t.ring.latchOf c).value, (t.ring.latchOf c).gap)
      let block : Option Block :=
        if raw = [] then s.link.block
        else
          match s.link.block with
          | none => some ⟨s.survey.tick, raw, [row]⟩
          | some b => some { b with rows := b.rows ++ [row] }
      let closes : Prop := s.link.rawHold ≠ none ∨ ∃ b, block = some b ∧ 32 ≤ b.rows.length
      (closes → BlockClosed block s.link t.link) ∧
      (¬closes →
        t.link.block = block ∧ t.link.samples = s.link.samples ∧ t.link.drops = s.link.drops ∧
        t.link.sampleDrops = s.link.sampleDrops)

/-- R28, R29, R33, R34, R36, R38, R62: the sweeps of a tick in FORWARD, REVERSE or SPLIT judged at its close, where all sweeps
of one path fare alike. Lost ones add to the path's count and each to the lost-sweep counter, returned ones set the count to 0;
a returned full forward sweep, a regular one in FORWARD or a trial, empties the loop-error set. A count of 3 is a ring fault:
SEARCH is entered with both counts 0 and a RING notice of cause FAULT, and an empty first-fault snapshot is latched under
RING_FAULT with no position, the tick and the kit report of SEARCH with the third loss counted (R62), in which only the sample
drops and the notice losses of the rest of the close do not stand yet; a fatal cause of a report of the same close has latched
it before (entry 7). Otherwise the mode stays, but for a returned trial sweep, which heals the ring into FORWARD with a RING
notice of cause HEAL and, when the last settled mode was another, one more loop switch counted; that healing keeps the loss
counts is the model's choice (entry 12). A notice offered stands in the queue at the end of the step unless the queue is full,
when it may have been dropped (R187). -/
def Obligations.SweepsJudged : Prop :=
  ∀ s : State, s.ring.tickOpen = true →
    s.ring.mode = .forward ∨ s.ring.mode = .reverse ∨ s.ring.mode = .split →
    (∀ x ∈ s.ring.sweeps, ∀ y ∈ s.ring.sweeps, x.kind = .regular → y.kind = .regular → x.direction = y.direction →
      x.returned.isSome = y.returned.isSome) →
    let count (d : Direction) (n : Nat) : Nat :=
      if s.ring.sweeps.any (fun x => x.kind = .regular && x.direction = d && x.returned.isNone) then min (n + 1) 3
      else if s.ring.sweeps.any (fun x => x.kind = .regular && x.direction = d) then 0 else n
    let f := count .forward s.ring.lossForward
    let r := count .reverse s.ring.lossReverse
    let emptied : Bool :=
      s.ring.sweeps.any fun x => x.full && x.returned.isSome && (x.kind ≠ .regular || s.ring.mode = .forward)
    let errorsF := if emptied then Table.replicate 12 false else s.ring.loopForward
    let errorsR := if emptied then Table.replicate 12 false else s.ring.loopReverse
    ∃ t, exec .tickClose s = .next t ∧
      let offered (b : NoticeBody) : Prop := t.link.notices.length < 16 → ⟨s.survey.tick, b⟩ ∈ t.link.notices
      t.ring.lost =
        min (s.ring.lost + s.ring.sweeps.countP fun x => x.kind = .regular && x.returned.isNone) 65535 ∧
      (f = 3 ∨ r = 3 →
        t.ring.mode = .search ∧ t.ring.search = .start ∧ t.ring.lossForward = 0 ∧ t.ring.lossReverse = 0 ∧
        t.ring.tf = s.ring.tf ∧ t.ring.tr = s.ring.tr ∧ t.ring.unreachable = s.ring.unreachable ∧
        t.ring.loopForward = errorsF ∧ t.ring.loopReverse = errorsR ∧ t.ring.switches = s.ring.switches ∧
        t.ring.turnForward = s.ring.turnForward ∧ t.ring.turnReverse = s.ring.turnReverse ∧
        offered (.ring .search .fault s.ring.tf s.ring.tr errorsF errorsR s.ring.unreachable) ∧
        (∀ x, s.pods.snapshot = some x → t.pods.snapshot = some x) ∧
        (s.pods.snapshot = none →
          (∀ q, feedOn (s.pods.records.get q).state = true → feedOn (t.pods.records.get q).state = true) →
          ∃ losses, t.pods.snapshot =
            some ⟨{ t.kit with sampleDrops := s.link.sampleDrops, noticeLosses := losses }, .ringFault, none, s.survey.tick⟩) ∧
        (∀ q, s.pods.snapshot = none → feedOn (s.pods.records.get q).state = true →
          feedOn (t.pods.records.get q).state = false →
          ∃ x c, t.pods.snapshot = some x ∧ x.cause = .pod c ∧ x.tick = s.survey.tick)) ∧
      (f ≠ 3 → r ≠ 3 →
        (s.ring.mode = .forward ∨ ¬TrialBack s.ring →
          t.ring.mode = s.ring.mode ∧ t.ring.lossForward = f ∧ t.ring.lossReverse = r ∧ t.ring.tf = s.ring.tf ∧
          t.ring.tr = s.ring.tr ∧ t.ring.lastSettled = s.ring.lastSettled ∧
          t.ring.unreachable = s.ring.unreachable ∧ t.ring.loopForward = errorsF ∧ t.ring.loopReverse = errorsR ∧
          t.ring.switches = s.ring.switches ∧ t.ring.turnForward = s.ring.turnForward ∧
          t.ring.turnReverse = s.ring.turnReverse) ∧
        (s.ring.mode ≠ .forward → TrialBack s.ring →
          t.ring.mode = .forward ∧ t.ring.tf = s.pods.pMax ∧ t.ring.tr = 0 ∧ t.ring.modeTicks = 0 ∧
          t.ring.unreachable = Table.replicate 12 false ∧ t.ring.loopForward = Table.replicate 12 false ∧
          t.ring.loopReverse = Table.replicate 12 false ∧ t.ring.turnForward = some s.pods.pMax ∧
          t.ring.turnReverse = s.ring.turnReverse ∧ t.ring.lastSettled = some .forward ∧
          t.ring.lossForward = f ∧ t.ring.lossReverse = r ∧
          t.ring.switches =
            (if s.ring.lastSettled ≠ none ∧ s.ring.lastSettled ≠ some .forward then min (s.ring.switches + 1) 65535
             else s.ring.switches) ∧
          offered
            (.ring .forward .heal s.pods.pMax 0 (Table.replicate 12 false) (Table.replicate 12 false)
              (Table.replicate 12 false))))

/-- R30 to R33, R36, R38: the probe of a search tick judged at its close. The forward phase steps down from P_max to 1, the
reverse phase up from 1 to P_max; a settlement takes the mode the table of R31 gives, with the turns found, the turn record,
the loop-switch counter, the unreachable set of R32 and the loop errors of R33, which a returned full forward probe empties and
a settlement in another mode than FORWARD adds to, and a RING notice of cause SETTLE, which stands in the queue at the end of
the step unless the queue is full, when it may have been dropped (R187). R49: a pod in JOINING whose position the settlement
makes, or leaves (entry 67), unreachable goes back to POWERING with the powering count 0, no fatal cause and a POD notice of
cause UNREACHABLE, and its joins are withdrawn. R35, R29, R38: after the close of the 10,240th tick in DOWN the search begins
with cause RETRY and a RING notice; before that, in another mode or while a tick is open, the step changes nothing (entries 1
and 5). -/
def Obligations.SearchAndRetry : Prop :=
  (∀ (s : State) (w : Sweep), s.ring.tickOpen = true → s.ring.mode = .search → s.ring.sweeps = [w] → w.kind = .probe →
    s.ring.lossForward ≠ 3 → s.ring.lossReverse ≠ 3 →
    ∃ t, exec .tickClose s = .next t ∧ t.ring.lost = min s.ring.lost 65535 ∧
      let offered (b : NoticeBody) : Prop := t.link.notices.length < 16 → ⟨s.survey.tick, b⟩ ∈ t.link.notices
      let pMax := s.pods.pMax
      let emptied : Bool := w.full && w.returned.isSome
      let errorsF := if emptied then Table.replicate 12 false else s.ring.loopForward
      let errorsR := if emptied then Table.replicate 12 false else s.ring.loopReverse
      let goesOn (phase : SearchPhase) : Prop :=
        t.ring.mode = .search ∧ t.ring.search = phase ∧ t.ring.tf = s.ring.tf ∧ t.ring.tr = s.ring.tr ∧
        t.ring.unreachable = s.ring.unreachable ∧ t.ring.loopForward = errorsF ∧ t.ring.loopReverse = errorsR ∧
        t.ring.turnForward = s.ring.turnForward ∧ t.ring.turnReverse = s.ring.turnReverse ∧
        t.ring.switches = s.ring.switches ∧ t.ring.lastSettled = s.ring.lastSettled
      let settles (mode : RingMode) (tf tr : Nat) : Prop :=
        t.ring.mode = mode ∧ t.ring.tf = tf ∧ t.ring.tr = tr ∧ t.ring.modeTicks = 0 ∧
        t.ring.lastSettled = some mode ∧
        offered (.ring mode .settle tf tr t.ring.loopForward t.ring.loopReverse t.ring.unreachable) ∧
        t.ring.switches =
          (if s.ring.lastSettled ≠ none ∧ s.ring.lastSettled ≠ some mode then min (s.ring.switches + 1) 65535
           else s.ring.switches) ∧
        (∀ p, t.ring.unreachable.get p = true ↔ s.pods.enabled p = true ∧
          ¬(mode = .forward ∨ mode = .reverse ∨
            (mode = .split ∧ (p.val + 1 ≤ tf ∨ (tr ≠ 0 ∧ tr ≤ p.val + 1))))) ∧
        (mode = .forward → t.ring.loopForward = Table.replicate 12 false ∧ t.ring.loopReverse = Table.replicate 12 false) ∧
        (mode ≠ .forward → ∀ p,
          (t.ring.loopForward.get p = true ↔ errorsF.get p = true ∨ (tf < pMax ∧ p.val + 1 = tf + 1)) ∧
          (t.ring.loopReverse.get p = true ↔
            errorsR.get p = true ∨ (2 ≤ tr ∧ p.val + 1 = tr - 1) ∨ (tr = 0 ∧ p.val + 1 = pMax))) ∧
        t.ring.turnForward =
          (if mode = .forward then some pMax
           else if mode = .split ∧ tf ≠ 0 then some tf else s.ring.turnForward) ∧
        t.ring.turnReverse =
          (if mode = .reverse then some 1
           else if mode = .split ∧ tr ≠ 0 then some tr else s.ring.turnReverse) ∧
        (∀ p, (s.pods.records.get p).state = .joining → t.ring.unreachable.get p = true →
          (∀ slots x, w.returned = some slots → p ∈ w.path → slots[p.val]? = some x → x.present = false) →
          t.pods.records.get p = { s.pods.records.get p with state := .powering, powering := 0, timer := none } ∧
          offered (.pod p .joining .powering .unreachable (s.pods.records.get p).retry (summaryFlags t.pods t.ring)) ∧
          (∀ j ∈ t.pods.joins, j.position ≠ p) ∧
          ∀ x, t.ring.request = some x → x.client = .join → x.target ≠ p)
      (∀ k, s.ring.search = .forwardProbe k → w.returned ≠ none → k = pMax → settles .forward pMax 0) ∧
      (∀ k, s.ring.search = .forwardProbe k → w.returned ≠ none → k ≠ pMax → goesOn (.reverseProbe k 1)) ∧
      (∀ k, s.ring.search = .forwardProbe k → w.returned = none → 2 ≤ k → goesOn (.forwardProbe (k - 1))) ∧
      (∀ k, s.ring.search = .forwardProbe k → w.returned = none → k ≤ 1 → goesOn (.reverseProbe 0 1)) ∧
      (∀ f k, s.ring.search = .reverseProbe f k → w.returned = none → k < pMax → goesOn (.reverseProbe f (k + 1))) ∧
      (∀ f k, s.ring.search = .reverseProbe f k → w.returned ≠ none → f < pMax → k = 1 → settles .reverse f 1) ∧
      (∀ f k, s.ring.search = .reverseProbe f k → w.returned ≠ none → f < pMax → 2 ≤ k → settles .split f k) ∧
      (∀ f k, s.ring.search = .reverseProbe f k → w.returned = none → pMax ≤ k → f < pMax → 0 < f →
        settles .split f 0) ∧
      (∀ k, s.ring.search = .reverseProbe 0 k → w.returned = none → pMax ≤ k → 0 < pMax → settles .down 0 0)) ∧
  (∀ s : State,
    (s.ring.mode = .down → 10240 ≤ s.ring.modeTicks → s.ring.tickOpen = false →
      exec .downRetry s =
        .next (({ s with ring :=
          { s.ring with mode := .search, lossForward := 0, lossReverse := 0, modeTicks := 0, search := .start,
                        trialDue := false } } : State).offer
          (.ring .search .retry s.ring.tf s.ring.tr s.ring.loopForward s.ring.loopReverse s.ring.unreachable))) ∧
    (s.ring.mode ≠ .down ∨ s.ring.modeTicks < 10240 ∨ s.ring.tickOpen = true → exec .downRetry s = .next s))

/-! ## The pods (03) -/

/-- R27, R46, R47, R51, R52: the report of a pod at the close of a tick without a probe, where a sweep over its position came
back, all that did with one slot; another sweep of the tick may be lost. A present slot gives the pod its fault word and adds
to its history. OVERTEMP or INTERNAL is a fatal cause, the last off reason being INTERNAL when both are set: the pod is OFF
with its off timer started, its joins are withdrawn, a POD notice names the cause (when both are set, which of the two is a
free value, entry 14), and an empty snapshot is latched with that cause, the position, the tick and the kit report in which the
pod stands before the cause with the fault word of the report, the pods below it as their reports left them (entry 42) and
those above as they were. A pod in POWERING moves to JOINING with a POD notice of cause PRESENT, an ACTIVE one counts no
silence, or joins again on UNJOINED with one of cause REJOIN: the readings are empty, and the five join reads wait, unless the
free slot has taken the first (R39, R47, R50; a slot left free at the close takes the first join that waits). A SUPPLY_LOW that
was clear before offers a POD notice of that cause, and no other does. A notice stands in the queue unless that is full (R187).
An absent slot counts as silence of an ACTIVE pod and as a covered tick of one in POWERING. A pod with its feed off ignores
reports, and so does a position that no sweep covered. R27, R46, R51: the present slot that a probe brings back is applied in
the same way, of a position of the unreachable set too (entry 71), but counts no silence and ends none, and moves a pod in
POWERING to JOINING too, also one that had become unreachable (entry 68); an absent one, or a position the probe did not pass,
changes nothing. What a settlement at the same close does to a JOINING pod is left to R49. -/
def Obligations.ReportsApplied : Prop :=
  ∀ (s : State) (p : Pos), s.ring.tickOpen = true → s.pods.enabled p = true →
    ∃ t, exec .tickClose s = .next t ∧ (t.ring.request = none → t.pods.joins = []) ∧
      let old := s.pods.records.get p
      let new := t.pods.records.get p
      let bits (w : Slot) : BitVec 16 := w.status &&& 0x07FF#16
      let kept : Prop := t.ring.mode = .search ∨ t.ring.unreachable.get p = false
      let seen (w : Slot) (covered : Bool) : PodRecord :=
        { old with
          fault := bits w
          history := old.history ||| bits w
          mark := w.status.getLsbD 11
          silence := if old.state = .active ∧ covered = true then 0 else old.silence
          powering := if old.state = .powering ∧ covered = true then old.powering + 1 else old.powering }
      let told (r : PodRecord) (cause : PodCause) : Prop :=
        let records := Table.tabulate 12 fun q =>
          if q < p then t.pods.records.get q else if q = p then r else s.pods.records.get q
        t.link.notices.length < 16 →
          ⟨s.survey.tick, .pod p old.state r.state cause old.retry (summaryFlags { s.pods with records := records } s.ring)⟩ ∈
            t.link.notices
      let supply (w : Slot) : Prop :=
        (w.status.getLsbD 10 = true → old.fault.getLsbD 10 = false → told { old with fault := bits w } .supplyLow) ∧
        (w.status.getLsbD 10 = false ∨ old.fault.getLsbD 10 = true →
          ∀ k ∈ t.link.notices, k ∈ s.link.notices ∨ ∀ a b r f, k.body ≠ .pod p a b .supplyLow r f)
      let joins (r : PodRecord) (cause : PodCause) (kept : Prop) : Prop :=
        told r cause ∧
        (kept →
          new = r ∧
          (∀ k, k < 5 →
            ⟨p, k⟩ ∈ t.pods.joins ∨
              t.ring.request = some (joinTransaction ⟨p, k⟩ ((s.ring.lastTransaction + 1) % 256))) ∧
          ∀ j ∈ t.pods.joins, j.position = p → j.parameter < 5 ∨ (old.state = .powering ∧ j ∈ s.pods.joins))
      let switched (w : Slot) (covered : Bool) : Prop :=
        let r :=
          { seen w covered with
            state := .off .offTime .policy
            silence := 0
            fault := 0#16
            reasons :=
              old.reasons ||| (if w.status.getLsbD 8 then 0x04#8 else 0#8) |||
                (if w.status.getLsbD 9 then 0x08#8 else 0#8)
            lastReason := some (if w.status.getLsbD 9 then .internal else .overtemp)
            mark := false
            timer := some ⟨0, ((s.pods.table.get p).elim 0 fun e => e.offTime) * 1024 / 100⟩
            quiet := none }
        new = r ∧ (∀ j ∈ t.pods.joins, j.position ≠ p) ∧
        (∀ x, t.ring.request = some x → x.client = .join → x.target ≠ p) ∧
        t.pods.snapshot.isSome = true ∧ (∀ x, s.pods.snapshot = some x → t.pods.snapshot = some x) ∧
        ∃ cause : OffReason,
          (cause = .overtemp ∧ w.status.getLsbD 8 = true ∨ cause = .internal ∧ w.status.getLsbD 9 = true) ∧
          told r (reasonCause cause) ∧
          (s.pods.snapshot = none →
            (∀ q, q < p → feedOn (s.pods.records.get q).state = true → feedOn (t.pods.records.get q).state = true) →
            ∃ kit : KitReport, t.pods.snapshot = some ⟨kit, .pod cause, some p, s.survey.tick⟩ ∧
              kit = { s.kit with pods := kit.pods, markLost := kit.markLost, noticeLosses := kit.noticeLosses } ∧
              kit.pods.get p = seen w covered ∧ (∀ q, p < q → kit.pods.get q = s.pods.records.get q) ∧
              ((∀ x ∈ s.ring.sweeps, x.kind ≠ .probe) → ∀ q, q < p → kit.pods.get q = t.pods.records.get q))
      let applied (w : Slot) (covered : Bool) (kept : Prop) : Prop :=
        supply w ∧
        (w.status.getLsbD 8 = false → w.status.getLsbD 9 = false →
          new.fault = bits w ∧ new.history = old.history ||| bits w ∧ new.mark = w.status.getLsbD 11 ∧
          (old.state = .powering →
            joins { seen w covered with state := .joining, readings := Table.replicate 5 none } .present kept) ∧
          (old.state = .joining → kept → new = seen w covered) ∧
          (old.state = .active → w.status.getLsbD 12 = false → new = seen w covered) ∧
          (old.state = .active → w.status.getLsbD 12 = true →
            joins
              { seen w covered with state := .joining, silence := 0, quiet := none, readings := Table.replicate 5 none }
              .rejoin kept) ∧
          (old.state = .mismatch → new = seen w covered)) ∧
        (w.status.getLsbD 8 = true ∨ w.status.getLsbD 9 = true → switched w covered)
      (feedOn old.state = false → new = old) ∧
      ((∀ x ∈ s.ring.sweeps, x.kind ≠ .probe) →
        (∀ w, SlotSeen s.ring p w → w.present = true → feedOn old.state = true → applied w true True) ∧
        (∀ w, SlotSeen s.ring p w → w.present = false →
          (old.state = .active → new = { old with silence := min (old.silence + 1) 255 }) ∧
          (old.state = .powering → new = { old with powering := old.powering + 1 }) ∧
          (old.state ≠ .active → old.state ≠ .powering → new = old)) ∧
        ((∀ x ∈ s.ring.sweeps, p ∈ x.path → x.returned = none) → new = old)) ∧
      ∀ x, s.ring.sweeps = [x] → x.kind = .probe →
        (∀ slots w, x.returned = some slots → p ∈ x.path → slots[p.val]? = some w → w.present = true →
          feedOn old.state = true → applied w false kept) ∧
        ((∀ slots w, x.returned = some slots → p ∈ x.path → slots[p.val]? = some w → w.present = false) →
          old.state ≠ .joining ∨ kept → new = old)

/-- R27, R60, R146 to R148: the pod marks of a tick. A present report with MARK set while the mark level is clear is a new
mark (of two slots that differ the present one is reported, entry 63); one less than 20,480 ticks after the last accepted mark
of its position is ignored; an accepted one becomes the last accepted one and makes a MARK note with a link to its position,
while the survey is OPEN and the note table has room, by rising position (entry 42), and is otherwise lost and counted.
Nothing else of the Note Store changes. -/
def Obligations.PodMarksTaken : Prop :=
  ∀ (s : State) (accepted : List Pos), s.ring.tickOpen = true →
    accepted.Pairwise (· < ·) → (∀ p, p ∈ accepted ↔ NewMark s p ∧ MarkAccepted s p) →
    let room := if s.survey.state = .opened then 128 - s.notes.notes.length else 0
    let made := accepted.take room
    let lost := accepted.length - made.length
    ∃ t, exec .tickClose s = .next t ∧
      t.notes =
        { s.notes with
          notes := t.notes.notes, pending := t.notes.pending, lastMark := t.notes.lastMark, markLost := t.notes.markLost } ∧
      t.notes.notes =
        s.notes.notes ++
          made.map (fun p => ⟨.mark, s.survey.tick, s.survey.tick, none, none, some p, none, 0, none, .live⟩) ∧
      (∀ k, k ∈ t.notes.pending ↔
        k ∈ s.notes.pending ∨ (s.notes.notes.length < k ∧ k ≤ s.notes.notes.length + made.length)) ∧
      t.notes.markLost = (if lost = 0 then s.notes.markLost else min (s.notes.markLost + lost) 65535) ∧
      (∀ p, t.notes.lastMark.get p = if p ∈ accepted then some s.survey.tick else s.notes.lastMark.get p) ∧
      ∀ p w, SlotSeen s.ring p w → (∀ x ∈ s.ring.sweeps, x.kind ≠ .probe) →
        (s.ring.report p).status = if w.present then some w.status else none

/-- R47, R51, R52, R61, R62: the powering limit and the silence limit of a pod, after the close of a tick. The fatal cause
latches an empty snapshot, switches the feed off, clears the fault word, the silence count, the mark level and the quiet
timer, withdraws the position's joins and starts the off timer; not due, nothing changes (entries 1 and 5). -/
def Obligations.FatalTimersSwitchOff : Prop :=
  ∀ (s : State) (p : Pos),
    let r := s.pods.records.get p
    let off (cause : OffReason) (bit : BitVec 8) (t : State) : Prop :=
      t.pods.records =
        s.pods.records.set p
          { r with
            state := .off .offTime .policy
            silence := 0
            fault := 0#16
            reasons := r.reasons ||| bit
            lastReason := some cause
            mark := false
            timer := some ⟨0, ((s.pods.table.get p).elim 0 fun e => e.offTime) * 1024 / 100⟩
            quiet := none } ∧
      (s.pods.snapshot = none → t.pods.snapshot = some ⟨s.kit, .pod cause, some p, s.survey.tick⟩) ∧
      (∀ x, s.pods.snapshot = some x → t.pods.snapshot = some x) ∧
      (∀ j ∈ t.pods.joins, j ∈ s.pods.joins ∧ j.position ≠ p) ∧
      (∀ x, t.ring.request = some x → x.client = .join → x.target ≠ p) ∧
      t.pods.table = s.pods.table ∧ t.pods.drained = s.pods.drained ∧ t.survey = s.survey ∧ t.notes = s.notes ∧
      t.trackers = s.trackers ∧ t.events = s.events ∧ t.harmonics = s.harmonics ∧ t.printer = s.printer ∧
      t.ring.mode = s.ring.mode ∧ t.ring.latches = s.ring.latches ∧ t.link.replies = s.link.replies ∧
      t.link.records = s.link.records ∧
      ∃ n, t.link.notices.getLast? = some n ∧ n.tick = s.survey.tick ∧
        ∃ flags, n.body = .pod p r.state (.off .offTime .policy) (reasonCause cause) r.retry flags
    (r.state = .powering → 20480 ≤ r.powering → s.ring.tickOpen = false →
      ∃ t, exec (.poweringTimeout p) s = .next t ∧ off .noJoin 0x02#8 t) ∧
    (r.state ≠ .powering ∨ r.powering < 20480 ∨ s.ring.tickOpen = true → exec (.poweringTimeout p) s = .next s) ∧
    (r.state = .active → ((s.pods.table.get p).elim 16 fun e => e.silence) ≤ r.silence → s.ring.tickOpen = false →
      ∃ t, exec (.silenceLimit p) s = .next t ∧ off .silent 0x01#8 t) ∧
    (r.state ≠ .active ∨ r.silence < ((s.pods.table.get p).elim 16 fun e => e.silence) ∨ s.ring.tickOpen = true →
      exec (.silenceLimit p) s = .next s)

/-- R54, R45, R61, R62: the off timer's end, the drained input and the drained wait. When the off timer of a pod in OFF has
run out the phase becomes DRAIN-WAIT, which ends at once when the input is asserted; asserted within the wait, it takes the
step that the table of R54 gives for the sequence kind, and an input that changes outside the wait is only seen. 51,200 ticks
in DRAIN-WAIT without it move the pod to LATCHED under FEED_STUCK, whatever the sequence kind, and an empty snapshot is
latched first (its copy shows the state before the move, entry 38). R55: a cooldown that has run out returns the retry count
to 0 and powers the pod; an ACTIVE pod whose quiet timer has reached the quiet period of its entry (none for code 3) has its
retry count returned to 0 and the timer stopped. Not due, a step changes nothing (entries 1 and 5), and FEED_DRAINED carries
the new level (entry 9). -/
def Obligations.OffSequenceRuns : Prop :=
  (∀ (s : State) (p : Pos),
      let r := s.pods.records.get p
      (∀ kind x, r.state = .off .offTime kind → r.timer = some x → x.length ≤ x.elapsed → s.ring.tickOpen = false →
        let w := { r with state := .off .drainWait kind, timer := some ⟨0, 51200⟩ }
        (s.pods.drained.get p = false → exec (.offTimerExpiry p) s = .next (withRecord p w s)) ∧
        (s.pods.drained.get p = true →
          exec (.offTimerExpiry p) s =
            .next (podNoticed p w.state (afterDrain (s.pods.entry p) w kind).2
              (withRecord p (afterDrain (s.pods.entry p) w kind).1 s)))) ∧
      ((∀ kind, r.state ≠ .off .offTime kind) ∨ (∀ x ∈ r.timer, x.elapsed < x.length) ∨ s.ring.tickOpen = true →
        exec (.offTimerExpiry p) s = .next s) ∧
      (∀ level,
        let v := { s with pods := { s.pods with drained := s.pods.drained.set p level } }
        (∀ kind, r.state = .off .drainWait kind → level = true →
          exec (.feedDrained p level) s =
            .next (podNoticed p r.state (afterDrain (s.pods.entry p) r kind).2
              (withRecord p (afterDrain (s.pods.entry p) r kind).1 v))) ∧
        ((∀ kind, r.state ≠ .off .drainWait kind) ∨ level = false → exec (.feedDrained p level) s = .next v))) ∧
  (∀ (s : State) (p : Pos),
      let r := s.pods.records.get p
      (∀ kind x, r.state = .off .drainWait kind → r.timer = some x → x.length ≤ x.elapsed → s.ring.tickOpen = false →
        let latched := { r with
          state := .latched, reasons := r.reasons ||| 0x20#8, lastReason := some .feedStuck, timer := none }
        (s.pods.snapshot ≠ none →
          exec (.drainWaitTimeout p) s = .next (podNoticed p r.state .feedStuck (withRecord p latched s))) ∧
        (s.pods.snapshot = none →
          exec (.drainWaitTimeout p) s =
            .next (podNoticed p r.state .feedStuck (withRecord p latched
              { s with pods := { s.pods with
                  snapshot := some ⟨s.kit, .pod .feedStuck, some p, s.survey.tick⟩ } })))) ∧
      ((∀ kind, r.state ≠ .off .drainWait kind) ∨ (∀ x ∈ r.timer, x.elapsed < x.length) ∨ s.ring.tickOpen = true →
        exec (.drainWaitTimeout p) s = .next s)) ∧
  (∀ (s : State) (p : Pos),
    let r := s.pods.records.get p
    let code := (s.pods.table.get p).elim 0 fun e => e.quiet
    let period := if code = 0 then 307200 else if code = 1 then 1228800 else 6144000
    (∀ x, r.state = .cooldown → r.timer = some x → x.length ≤ x.elapsed → s.ring.tickOpen = false →
      exec (.cooldownExpiry p) s =
        .next (podNoticed p .cooldown .cooldown
          (withRecord p { r with state := .powering, retry := 0, powering := 0, timer := none } s))) ∧
    (r.state ≠ .cooldown ∨ (∀ x ∈ r.timer, x.elapsed < x.length) ∨ s.ring.tickOpen = true →
      exec (.cooldownExpiry p) s = .next s) ∧
    (∀ q, r.state = .active → r.quiet = some q → code ≤ 2 → period ≤ q → s.ring.tickOpen = false →
      exec (.quietPeriod p) s = .next (withRecord p { r with retry := 0, quiet := none } s)) ∧
    (r.state ≠ .active ∨ 2 < code ∨ (∀ q ∈ r.quiet, q < period) ∨ s.ring.tickOpen = true →
      exec (.quietPeriod p) s = .next s))

/-- R5, R6, R42, R43 (with R29, R32, R38, R47, R49, R50, R61): LOAD-POD is decided lock, index, ranges; an accepted load
replaces the entry, acts on the record of its position by the row of R43, and begins a search when P_max has changed. Each
state change offers a POD notice of cause TABLE, and the search a RING notice of that cause. Disabling withdraws the position's
join transactions; a pod that joins again has its five reads placed anew; the free slot takes the first join that waits (R39).
A newly enabled position enters the unreachable set when the last settlement does not reach it (before the first one every
position is reached, entry 11); the RING notice carries the set as adjusted (entry 41). The reply's empty data is the model's
(entry 26). -/
def Obligations.LoadPodActs : Prop :=
  ∀ (s u : State) (tag : Byte) (k : Nat) (f : Option PodFields), Takes s tag (.loadPod k f) u →
    LoadFollows 12 (u.survey.state ≠ .closed) k (f.bind podFault)
      (fun r data => exec (.loadPod tag k f) s = .next (replied tag 0x05 r data u))
      (fun p => ∃ v, exec (.loadPod tag k f) s = .next (replied tag 0x05 .ok [] v) ∧
        let old := u.pods.records.get p
        let new := v.pods.records.get p
        let before := u.pods.enabled p
        let after := f.any fun e => e.enable = 1
        v.pods.table = u.pods.table.set p (f.map fun e =>
          ⟨e.enable = 1, e.typeCode, e.silence.getD 16, e.retry, e.offTime, e.cooldown, e.quiet⟩) ∧
        let pod (next : PodState) (retry : Nat) : NoticeBody :=
          .pod p old.state next .table retry (summaryFlags v.pods u.ring)
        let ring : NoticeBody :=
          .ring .search .table u.ring.tf u.ring.tr u.ring.loopForward u.ring.loopReverse v.ring.unreachable
        let told (l : List NoticeBody) : Prop :=
          v.link =
            (if v.pods.pMax = u.pods.pMax then l else l ++ [ring]).foldl (fun k b => k.offer ⟨u.survey.tick, b⟩) u.link
        let joins (w : State) : Prop :=
          v.pods.joins = w.pods.joins ∧ v.ring.request = w.ring.request ∧ v.ring.lastTransaction = w.ring.lastTransaction
        (before = false → after = true →
          new = { old with state := .powering, retry := 0, silence := 0, powering := 0, timer := none } ∧
          told [pod .powering 0] ∧ joins (joinFilled u) ∧
          (v.ring.unreachable.get p = true ↔
            u.ring.lastSettled = some .down ∨
            (u.ring.lastSettled = some .split ∧
              ¬(p.val + 1 ≤ u.ring.tf ∨ (u.ring.tr ≠ 0 ∧ u.ring.tr ≤ p.val + 1))))) ∧
        (before = true → after = false →
          new = { old with
            state := .disabled, retry := 0, silence := 0, fault := 0#16, quiet := none, mark := false, timer := none } ∧
          told [pod .disabled 0] ∧ joins (joinsAnew p [] u) ∧ v.ring.unreachable.get p = false) ∧
        (∀ e, before = true → after = true → f = some e →
          (old.state = .active ∨ old.state = .mismatch ∨ old.state = .joining →
            new = { old with
              state := .joining, retry := min old.retry e.retry, silence := 0, quiet := none
              readings := Table.replicate 5 none } ∧
            told (if old.state = .joining then [] else [pod .joining (min old.retry e.retry)]) ∧
            joins (joinsAnew p [0, 1, 2, 3, 4] u)) ∧
          (old.state ≠ .active → old.state ≠ .mismatch → old.state ≠ .joining →
            new = { old with retry := min old.retry e.retry } ∧ told [] ∧ joins (joinFilled u))) ∧
        (before = false → after = false → new = old ∧ told [] ∧ joins (joinFilled u)) ∧
        (∀ q, q ≠ p → v.pods.records.get q = u.pods.records.get q ∧
          v.ring.unreachable.get q = u.ring.unreachable.get q) ∧
        (before = after → v.ring.unreachable = u.ring.unreachable) ∧
        (let stays :=
          { u.ring with
            unreachable := v.ring.unreachable, request := v.ring.request, lastTransaction := v.ring.lastTransaction }
        v.ring =
          if v.pods.pMax = u.pods.pMax then stays
          else
            { stays with
              mode := .search, search := .start, lossForward := 0, lossReverse := 0, modeTicks := 0, trialDue := false }) ∧
        v.pods.snapshot = u.pods.snapshot ∧ v.pods.drained = u.pods.drained ∧ v.survey = u.survey ∧
        v.trackers = u.trackers ∧ v.events = u.events ∧ v.harmonics = u.harmonics ∧ v.notes = u.notes ∧
        v.printer = u.printer ∧ v.pending = u.pending)

/-- R58, R39, R177: the checks of POD-READ and POD-WRITE in order, and the placing of one that passes: the next transaction
number, its age 0, and the free reply entry reserved with its tag and code; nothing else changes (a read carries the value 0,
entry 53). R56, R57: POD-CYCLE switches a pod that is neither DISABLED nor LATCHED off and on under COMMANDED, with a POD
notice of that cause (also for a pod already OFF, entry 15), its retry count kept and the snapshot not latched; its joins are
withdrawn, a slot that this frees takes the first of those that wait (R39), and nothing else changes; POD-RELEASE takes a
LATCHED pod to DRAIN-WAIT with its retry count 0, and on to POWERING at once when the drained input is asserted. -/
def Obligations.PodDirectivesAct : Prop :=
  (∀ (s u : State) (tag : Byte) (k parameter value : Nat),
    let refused (c : Instr) (code : Byte) (r : ResultCode) : Prop := exec c s = .next (replied tag code r [] u)
    let placed (p : Pos) (op : TxOp) (value : Nat) (code : Byte) : State :=
      { u with
        ring :=
          { u.ring with
            request := some ⟨p, (u.ring.lastTransaction + 1) % 256, op, parameter, value, .host tag code, 0⟩
            lastTransaction := (u.ring.lastTransaction + 1) % 256 }
        link := { u.link with reserved := some (tag, code) } }
    let away (p : Pos) : Prop := (u.pods.records.get p).state ≠ .active ∨ u.ring.unreachable.get p = true
    (Takes s tag (.podRead k parameter) u →
      let c : Instr := .podRead tag k parameter
      (k = 0 ∨ 12 < k ∨ 63 < parameter → refused c 0x40 .badValue) ∧
      ∀ p : Pos, k = p.val + 1 → parameter ≤ 63 →
        (away p → refused c 0x40 .podUnavailable) ∧
        (¬away p → u.ring.request ≠ none → refused c 0x40 .busy) ∧
        (¬away p → u.ring.request = none → exec c s = .next (placed p .read 0 0x40))) ∧
    (Takes s tag (.podWrite k parameter value) u →
      let c : Instr := .podWrite tag k parameter value
      let locked : Prop := 1 ≤ parameter ∧ parameter ≤ 4 ∧ u.survey.state ≠ .closed
      (k = 0 ∨ 12 < k ∨ 63 < parameter ∨ 65535 < value ∨ parameter = 5 → refused c 0x41 .badValue) ∧
      ∀ p : Pos, k = p.val + 1 → parameter ≤ 63 → value ≤ 65535 → parameter ≠ 5 →
        (locked → refused c 0x41 .locked) ∧
        (¬locked → away p → refused c 0x41 .podUnavailable) ∧
        (¬locked → ¬away p → u.ring.request ≠ none → refused c 0x41 .busy) ∧
        (¬locked → ¬away p → u.ring.request = none → exec c s = .next (placed p .write value 0x41)))) ∧
  (∀ (s u : State) (tag : Byte) (k : Nat),
    (Takes s tag (.podCycle k) u →
      (k = 0 ∨ 12 < k → exec (.podCycle tag k) s = .next (replied tag 0x42 .badValue [] u)) ∧
      ∀ p : Pos, k = p.val + 1 →
        let r := u.pods.records.get p
        (r.state = .disabled ∨ r.state = .latched →
          exec (.podCycle tag k) s = .next (replied tag 0x42 .badState [] u)) ∧
        (r.state ≠ .disabled → r.state ≠ .latched →
          let v :=
            podNoticed p r.state .commanded
              (withRecord p
                { r with
                  state := .off .offTime .commanded
                  silence := 0
                  fault := 0#16
                  reasons := r.reasons ||| 0x10#8
                  lastReason := some .commanded
                  mark := false
                  timer := some ⟨0, ((u.pods.table.get p).elim 0 fun e => e.offTime) * 1024 / 100⟩
                  quiet := none }
                (joinsAnew p [] u))
          exec (.podCycle tag k) s = .next (replied tag 0x42 .ok [] v) ∧
            (∀ j ∈ v.pods.joins, j ∈ u.pods.joins ∧ j.position ≠ p) ∧
            (∀ x, v.ring.request = some x → x.client = .join → x.target ≠ p) ∧
            (∀ x, u.ring.request = some x → x.client ≠ .join → v.ring.request = some x))) ∧
    (Takes s tag (.podRelease k) u →
      (k = 0 ∨ 12 < k → exec (.podRelease tag k) s = .next (replied tag 0x43 .badValue [] u)) ∧
      ∀ p : Pos, k = p.val + 1 →
        let r := u.pods.records.get p
        let w := { r with state := .off .drainWait .release, retry := 0, timer := some ⟨0, 51200⟩ }
        let v := podNoticed p .latched .release (withRecord p w u)
        (r.state ≠ .latched → exec (.podRelease tag k) s = .next (replied tag 0x43 .badState [] u)) ∧
        (r.state = .latched → u.pods.drained.get p = false →
          exec (.podRelease tag k) s = .next (replied tag 0x43 .ok [] v)) ∧
        (r.state = .latched → u.pods.drained.get p = true →
          exec (.podRelease tag k) s =
            .next (replied tag 0x43 .ok []
              (podNoticed p w.state .feedOn
                (withRecord p { w with state := .powering, powering := 0, timer := none } v))))))

/-! ## The cycle trackers (04) -/

/-- R66 to R68: the tracker of a set group at the close of a tick while the analysis runs. The reference is formed from the
latches as the close leaves them. A run of d ticks of the sign opposite to the settled one confirms a crossing and settles the
sign; a sign of the settled kind ends a run; the first sign is settled without a crossing. Then tick t − D is decided, from
tick 1 of the survey on, with the crossing confirmed at this close, if any. A debounce of 0 acts as 1. Otherwise the tracker
stays as it is. R19, R79, R86, R117: the latches of the members of a set group enter the delay lines of the Event Detector and
the Harmonic Analyser; a boundary that the decision places is announced to both; and the samples of tick t − D are taken into
the half-cycle and the cycle in progress, unless a boundary is due, whose step takes them (entry 8). That the groups are
analysed in order of their number, and that at an announcement the Event Detector acts before the Harmonic Analyser, where R68
has the two act independently and no rule orders the groups, is the model's choice (entry 31). -/
def Obligations.CrossingsSensed : Prop :=
  ∀ (s : State) (n : Grp), s.ring.tickOpen = true →
    ∃ t, exec .tickClose s = .next t ∧
      (s.survey.analysing = false ∨ s.survey.tick = 0 ∨ s.survey.groups.get n = none →
        t.trackers.get n = s.trackers.get n) ∧
      (∃ u : State,
        u.survey = s.survey ∧ u.trackers = s.trackers ∧ u.events = s.events ∧ u.harmonics = s.harmonics ∧
        u.ring.latches = t.ring.latches ∧ u.link.records = s.link.records ∧ u.link.replies = s.link.replies ∧
        let v := if s.survey.analysing = true ∧ 1 ≤ s.survey.tick then (indexes 8).foldl groupAnalysed u else u
        t.survey = v.survey ∧ t.trackers = v.trackers ∧ t.events = v.events ∧ t.harmonics = v.harmonics ∧
        t.link = v.link) ∧
      ∀ g, s.survey.analysing = true → 1 ≤ s.survey.tick → s.survey.groups.get n = some g →
        let x := s.trackers.get n
        let a := (t.ring.latchOf g.refA).value
        let r : Int := g.refB.elim a fun b => a - ((g.k : Int) * (t.ring.latchOf b).value).tdiv 128
        let sign : Sign := if r < 0 then .negative else .nonNegative
        let edge : Edge := if r < 0 then .falling else .rising
        let d := if g.d = 0 then 1 else g.d
        let began := if x.run = 0 then s.survey.tick else x.runStart
        let decided (y : Tracker) (crossing : Option Edge) : Tracker :=
          if d ≤ s.survey.tick then (y.decideAt g n (s.survey.tick - (d - 1)) crossing).tracker else y
        (x.settled = none → t.trackers.get n = decided { x with settled := some sign, run := 0 } none) ∧
        (x.settled = some sign → t.trackers.get n = decided { x with run := 0 } none) ∧
        (∀ old, x.settled = some old → old ≠ sign → x.run + 1 < d →
          t.trackers.get n = decided { x with run := x.run + 1, runStart := began } none) ∧
        (∀ old, x.settled = some old → old ≠ sign → d ≤ x.run + 1 →
          t.trackers.get n = decided { x with settled := some sign, run := 0, runStart := began } (some edge))

/-- R68 to R72, R74, R75, R78 to R82: the decision of a tick with the crossing whose instant is there, if any. The first one
is the origin boundary. In LOST and ACQUIRING a crossing is counted, and the one that makes the fourth plausible interval in a
row locks, as a resync boundary that seeds the history with a LOCK notice; in LOCKED a crossing in the window is accepted and
its offset captured, clamped to 78..114; in FLYWHEEL the first one in the window is counted and the second in a row relocks,
with a RELOCK notice. Without one, the boundary that R73, R76 or R77 times is due once its offset is reached, and a step of
its own places it (entry 8); nothing else of the tracker changes. The origin is no second predecessor (R80, entry 50). -/
def Obligations.TrackerDecides : Prop :=
  ∀ (y : Tracker) (g : GroupFields) (n : Grp) (i : Nat) (c : Option Edge),
    let answer := y.decideAt g n i c
    let quiet (z : Tracker) : Prop := answer = ⟨z, none, []⟩
    (y.last = none →
      let z := scheduled (windowed g { y with last := some ⟨i, .rising, .origin⟩, before := none })
      answer = ⟨z, some ⟨i, .rising, .origin, false, none, ⟨false, false, false, false, false⟩, none, z.state, z.period⟩, []⟩) ∧
    ∀ last, y.last = some last →
      let off := i - last.tick
      let placed (e : Edge) : Tracker :=
        { y with last := some ⟨i, e, .crossing⟩, before := secondOf last }
      let announces (z : Tracker) (e : Edge) (resync : Bool) (notices : List NoticeBody) : Prop :=
        answer = ⟨z, some (boundaryAt i e .crossing resync last y.before z), notices⟩
      let notice (z : Tracker) (cause : TrackerCause) : NoticeBody :=
        .tracker n y.state z.state cause i z.period (81920000 / z.period) z.flywheelEntries
      let plausible (a : Nat) : Prop := 78 ≤ i - a ∧ i - a ≤ 114
      let inWindow (e : Edge) : Prop := e ≠ last.edge ∧ y.mask ≤ off ∧ off ≤ y.limit
      let captured := (y.history ++ [max 78 (min off 114)]).drop (y.history.length + 1 - 8)
      (y.state = .lost ∨ y.state = .acquiring →
        let goesOn (z : Tracker) : Prop := quiet (if z.nextLength ≤ off then { z with due := some .timed } else z)
        (c = none → goesOn y) ∧
        (∀ e, c = some e → y.anchor = none → goesOn { y with anchor := some i, state := .lost }) ∧
        (∀ e a, c = some e → y.anchor = some a → ¬plausible a →
          goesOn { y with intervals := [], anchor := some i, state := .lost }) ∧
        (∀ e a, c = some e → y.anchor = some a → plausible a → y.intervals.length ≠ 3 →
          goesOn { y with intervals := y.intervals ++ [i - a], anchor := some i, state := .acquiring }) ∧
        (∀ e a, c = some e → y.anchor = some a → plausible a → y.intervals.length = 3 →
          let four := y.intervals ++ [i - a]
          let z := windowed g
            { placed e with
              state := .locked, history := four ++ four, period := periodOf g.f (four ++ four), intervals := []
              anchor := none, accepted := 0, flywheelCount := 0 }
          announces z e true [notice z .lock])) ∧
      (y.state = .locked →
        (∀ e, c = some e → inWindow e →
          announces (windowed g { placed e with history := captured, period := periodOf g.f captured }) e false []) ∧
        ((∀ e, c = some e → ¬inWindow e) → quiet (if y.limit ≤ off then { y with due := some .forced } else y))) ∧
      (y.state = .flywheel →
        (∀ e, c = some e → inWindow e → y.accepted = 0 →
          announces (scheduled (windowed g { placed e with flywheelCount := 0, accepted := 1, residue := 0 })) e false []) ∧
        (∀ e, c = some e → inWindow e → y.accepted ≠ 0 →
          let z := windowed g
            { placed e with
              flywheelCount := 0, accepted := 0, state := .locked, history := captured, period := periodOf g.f captured }
          announces z e false [notice z .relock]) ∧
        ((∀ e, c = some e → ¬inWindow e) → quiet (if y.nextLength ≤ off then { y with due := some .wheel } else y)))

/-- R70, R71, R73: a TIMED boundary that is due falls at the decision tick with the opposite sign of the last one; the mask,
the window limit, the next timed length and the residue follow from the half-period, which stays, and no notice is offered.
R76, R77, R82: a FORCED boundary enters FLYWHEEL with the flywheel count 1 and one more entry counted, and a WHEEL boundary
counts one more flywheel boundary, both at the decision tick with the sign opposite to the last one's and the half-period
frozen. At the flywheel limit the tracker goes on to LOST at the nominal. The notices WINDOW and LIMIT carry the half-period
and frequency after the change (at a flywheel limit of 1 the first carries the frozen ones, entry 39). The last boundary
becomes the one before last, but for the origin (R80, entry 50). R79, R86, R117: the boundary is announced to the Event
Detector and to the Harmonic Analyser, with the kind, sign, length and flags of the half-cycle it ends and the state and
half-period after it, and then the samples of the decision tick are taken. That the Event Detector acts first, where R68 has the
two act independently, is the model's choice (entry 31). Nothing happens for an unset group or when none of the kind is due
(entries 1 and 8). -/
def Obligations.DueBoundariesPlaced : Prop :=
  (∀ (s : State) (n : Grp),
    let x := s.trackers.get n
    (∀ g b, s.survey.groups.get n = some g → x.due = some .timed → x.last = some b →
      let i := decisionTick g s.survey.tick
      let sign : Edge := if b.edge = .rising then .falling else .rising
      let y := { x with
        due := none
        last := some ⟨i, sign, .timed⟩
        before := secondOf b
        mask := g.m * x.period / 2048
        limit := x.period * (128 + g.w) / 2048
        nextLength := (x.residue + x.period) / 16
        residue := (x.residue + x.period) % 16 }
      ∃ t, exec (.timedBoundary n) s = .next t ∧
        t =
          samplesTaken n g
            (announced n g (boundaryAt i sign .timed false b x.before y) { s with trackers := s.trackers.set n y }) ∧
        t.trackers = s.trackers.set n y ∧
        t.survey = s.survey ∧ t.ring = s.ring ∧ t.pods = s.pods ∧ t.notes = s.notes ∧ t.printer = s.printer ∧
        t.link.notices = s.link.notices ∧ t.link.replies = s.link.replies) ∧
    (s.survey.groups.get n = none ∨ x.due ≠ some .timed → exec (.timedBoundary n) s = .next s) ∧
    (s.survey.groups.get n = none ∨ x.due ≠ some .forced → exec (.forcedBoundary n) s = .next s) ∧
    (s.survey.groups.get n = none ∨ x.due ≠ some .wheel → exec (.wheelBoundary n) s = .next s)) ∧
  (∀ (s : State) (n : Grp) (g : GroupFields) (b : LastBoundary),
    let x := s.trackers.get n
    let i := decisionTick g s.survey.tick
    let sign : Edge := if b.edge = .rising then .falling else .rising
    let notice (old : TrackerState) (y : Tracker) (cause : TrackerCause) : Notice :=
      ⟨s.survey.tick, .tracker n old y.state cause i y.period (81920000 / y.period) y.flywheelEntries⟩
    let frame (t : State) : Prop :=
      t.survey = s.survey ∧ t.ring = s.ring ∧ t.pods = s.pods ∧ t.notes = s.notes ∧ t.printer = s.printer ∧
      t.link.replies = s.link.replies
    let placed (kind : BoundaryKind) (y : Tracker) (l : Link) : State :=
      samplesTaken n g
        (announced n g (boundaryAt i sign kind false b x.before y) { s with trackers := s.trackers.set n y, link := l })
    s.survey.groups.get n = some g → x.last = some b →
    (x.due = some .forced →
      let y := { x with
        due := none, state := .flywheel, last := some ⟨i, sign, .forced⟩, before := secondOf b
        mask := g.m * x.period / 2048, limit := x.period * (128 + g.w) / 2048, nextLength := x.period / 16
        residue := x.period % 16, accepted := 0, flywheelCount := 1
        flywheelEntries := min (x.flywheelEntries + 1) 65535 }
      ∃ t, exec (.forcedBoundary n) s = .next t ∧ frame t ∧
        (1 < g.flywheel → t = placed .forced y (s.link.offer (notice x.state y .window)) ∧
          t.trackers = s.trackers.set n y ∧
          t.link.notices = (s.link.offer (notice x.state y .window)).notices) ∧
        (g.flywheel ≤ 1 →
          t = placed .forced (lostAt g y)
            ((s.link.offer (notice x.state y .window)).offer (notice .flywheel (lostAt g y) .limit)) ∧
          t.trackers = s.trackers.set n (lostAt g y) ∧
          t.link.notices =
            ((s.link.offer (notice x.state y .window)).offer (notice .flywheel (lostAt g y) .limit)).notices)) ∧
    (x.due = some .wheel →
      let y := { x with
        due := none, last := some ⟨i, sign, .wheel⟩, before := secondOf b
        mask := g.m * x.period / 2048, limit := x.period * (128 + g.w) / 2048
        nextLength := (x.residue + x.period) / 16, residue := (x.residue + x.period) % 16, accepted := 0
        flywheelCount := min (x.flywheelCount + 1) 255 }
      ∃ t, exec (.wheelBoundary n) s = .next t ∧ frame t ∧
        (y.flywheelCount < g.flywheel → t = placed .wheel y s.link ∧
          t.trackers = s.trackers.set n y ∧ t.link.notices = s.link.notices) ∧
        (g.flywheel ≤ y.flywheelCount →
          t = placed .wheel (lostAt g y) (s.link.offer (notice x.state (lostAt g y) .limit)) ∧
          t.trackers = s.trackers.set n (lostAt g y) ∧
          t.link.notices = (s.link.offer (notice x.state (lostAt g y) .limit)).notices)))

/-- R69: every step keeps every tracker's filtered half-period in 1248..1824, for every command and every state in which the
histories, intervals and filter exponents are what they may be. -/
def Obligations.PeriodBoundsKept : Prop :=
  ∀ s t : State, PeriodBounds s → step s = .next t → PeriodBounds t

/-! ## Sag capture (05) -/

/-- R84, R85: LOAD-PROFILE passes the common checks of R5 and the survey lock, then the six cross-field checks in order; an
accepted load replaces the entry, or unsets it, and satisfies the ordering of the thresholds. R114, R115: LOAD-BINS passes the
common checks of R5 and the survey lock, then the two cross-field checks in order; an accepted load replaces the whole entry,
or unsets it, and READ-TABLE returns the entry as loaded. -/
def Obligations.ProfileAndBinLoads : Prop :=
  ((∀ (s u : State) (tag : Byte) (k : Nat) (f : Option ProfileFields), Takes s tag (.loadProfile k f) u →
    LoadFollows 8 (u.survey.state ≠ .closed) k (f.bind profileFault)
      (fun r data => exec (.loadProfile tag k f) s = .next (replied tag 0x03 r data u))
      (fun i => exec (.loadProfile tag k f) s =
        .next (replied tag 0x03 .ok [BitVec.ofNat 8 k]
          { u with events := { u.events with profiles := u.events.profiles.set i f } }))) ∧
  (∀ p, profileFault p = none →
    0 < p.intEnter ∧ p.intEnter < p.intExit ∧ p.intExit ≤ p.sagEnter ∧ p.sagEnter < p.sagExit ∧
      p.sagExit ≤ 10000 ∧ 10000 ≤ p.swellExit ∧ p.swellExit < p.swellEnter)) ∧
  (∀ (s u : State) (tag : Byte) (k : Nat) (f : Option BinFields), Takes s tag (.loadBins k f) u →
    LoadFollows 4 (u.survey.state ≠ .closed) k (f.bind binFault)
      (fun r data => exec (.loadBins tag k f) s = .next (replied tag 0x04 r data u))
      (fun i =>
        let v := replied tag 0x04 .ok [BitVec.ofNat 8 k]
          { u with harmonics := { u.harmonics with binSets := u.harmonics.binSets.set i f } }
        exec (.loadBins tag k f) s = .next v ∧
        ∀ b tag' w, f = some b → Takes v tag' (.readTable 4 k) w →
          exec (.readTable tag' 4 k) v =
            .next (replied tag' 0x09 .ok (0x04 :: BitVec.ofNat 8 k :: 0x01 :: binBytes b) w)))

/-- R87: the residual of a half-cycle of n samples is 10,000 times the integer square root of floor(S / n) over the nominal
code, truncated and saturated at 65535. R121: the amplitude of an order over n samples is the integer square root of the sum of
the squares of Re and Im over n × 1024, each divided toward zero, and holds at 1,048,575. The square root is the largest
integer whose square is at most its operand. R88, R89: the condition of a voltage member after a half-cycle. A withheld
half-cycle (SHORT, or more than a quarter of it gapped) leaves the condition, gives no residual and is not CLIPPED; an
evaluated one is CLIPPED when the member's clip mark is set, and the answer names the member's channel and its condition
before. Otherwise the first row of the table of R89 that applies decides it, with the thresholds of the group's profile; so,
under the ordering of R85, a member leaves INTERRUPTION into SAG, SAG into NORMAL or straight into SWELL as R89 says, and
leaves NORMAL exactly when it was so and no longer is. -/
def Obligations.ResidualsAndConditions : Prop :=
  ((∀ n : Nat, isqrt n * isqrt n ≤ n ∧ n < (isqrt n + 1) * (isqrt n + 1)) ∧
  (∀ sum n nom root : Nat, 0 < n → 0 < nom → root * root ≤ sum / n → sum / n < (root + 1) * (root + 1) →
    residual sum n nom = min 65535 (root * 10000 / nom)) ∧
  (∀ (n root : Nat) (re im : Int), 0 < n →
    let a := (re.tdiv (n * 1024)).natAbs
    let b := (im.tdiv (n * 1024)).natAbs
    root * root ≤ a * a + b * b → a * a + b * b < (root + 1) * (root + 1) → h16 n re im = min 1048575 root)) ∧
  (∀ (p : ProfileFields) (b : Boundary) (n : Nat) (v : VoltageMember) (m : MemberState),
    let e := evaluate p b n v m
    let u := residual m.sum n v.nom
    let old := m.condition
    e.channel = v.channel ∧ e.before = old ∧
    (b.flags.short = true ∨ n / 4 < m.gaps → e.u = none ∧ e.after = old ∧ e.clipped = false) ∧
    (b.flags.short = false → m.gaps ≤ n / 4 →
      e.u = some u ∧ e.clipped = m.clip ∧
      (e.after = .interruption ↔ u < p.intEnter ∨ old = .interruption ∧ u < p.intExit) ∧
      (e.after = .sag ↔
        ¬(u < p.intEnter ∨ old = .interruption ∧ u < p.intExit) ∧
        (u < p.sagEnter ∨ (old = .sag ∨ old = .interruption) ∧ u < p.sagExit)) ∧
      (e.after = .swell ↔
        ¬(u < p.intEnter ∨ old = .interruption ∧ u < p.intExit) ∧
        ¬(u < p.sagEnter ∨ (old = .sag ∨ old = .interruption) ∧ u < p.sagExit) ∧
        (p.swellEnter < u ∨ old = .swell ∧ p.swellExit < u)) ∧
      (profileFault p = none →
        (old = .interruption → p.intExit ≤ u → u < p.sagExit → e.after = .sag) ∧
        (old = .sag → p.sagExit ≤ u → u ≤ p.swellEnter → e.after = .normal) ∧
        (old = .sag → p.swellEnter < u → e.after = .swell))) ∧
    (e.leavesNormal = true ↔ old = .normal ∧ e.after ≠ .normal))

/-- R91, R92, R94 to R97, R100: the group event machine at a boundary that ends a half-cycle. In QUIET a member that leaves
NORMAL starts an event with the half-cycle just ended, under the next sag number or unnumbered when none is left; its number,
entry, capture and burst are those of `startEvent` (EventStartsAndStores), which a new event in POST runs after the completion
of the old one (RecordCompletes). The span opens at the start tick of the event, and at its end joins the completed ones, of
which the last four stay (R100). In ACTIVE a boundary evaluated with every member NORMAL ends the event; one that reaches the
maximum length ends it CUT; any other goes on. The post window of twice the post-cycles follows, or none. In POST another
member leaving NORMAL starts a new event, but not after a CUT one; otherwise the window counts down, and at its end the machine
is QUIET, or LATCHED after a CUT event. LATCHED waits for a boundary evaluated with every member NORMAL. When an event
completes, at its end without a post window, at the end of the window or when a new event closes it (R101, R107), the entry
that holds its number is UNSENT with the record of the event and the pages and rows of its capture, and an OPEN entry of a
rising list is not lost. POST_SHORT marks the record whose window a new event closed, and that event may make it the first of a
burst (R99), if it starts within the burst window (entry 72). That the maximum length cuts at a boundary evaluated for no
member too is the model's choice (entry 69). -/
def Obligations.EventMachineMoves : Prop :=
  ∀ (id : GroupId) (w : BoundaryWork) (g : GroupEvents) (x : Events),
    let t := machineBoundary id w (g, x)
    let tick := w.boundary.tick
    let leaves : Prop := ∃ e ∈ w.evaluations, e.leavesNormal = true
    let whole : Prop := (∃ e ∈ w.evaluations, e.u ≠ none) ∧ ∀ e ∈ w.evaluations, e.after = .normal
    let started : Prop :=
      t.1.machine = .active ∧ t.1.span = { g.span with start := some (tick - w.n) } ∧
      ∃ k, t.1.event = some k ∧ k.start = tick - w.n ∧ k.stop = none ∧ k.halves = 1 ∧ k.flags.cut = false ∧
        (x.lastSag < 4294967295 → k.number = some (x.lastSag + 1) ∧ t.2.lastSag = x.lastSag + 1) ∧
        (4294967295 ≤ x.lastSag → k.number = none ∧ k.recorded = false ∧ t.2.lastSag = x.lastSag)
    let completes (c : Event) (told : Nat → SagRecord → SagRecord) : Prop :=
      ∀ k, c.recorded = true → c.number = some k →
        ((x.sags.Pairwise fun a b => a.number < b.number) → (∃ y ∈ x.sags, y.number = k ∧ y.status = .opened) →
          ∃ y ∈ t.2.sags, y.number = k) ∧
        ∃ r, RecordOf id.grp id.members id.voltage c k r ∧
          ∀ y ∈ t.2.sags, y.number = k →
            y.status = .unsent false (told k r) ∧ y.pages = c.capture.pages ∧ y.rows = c.capture.rows
    let first (k : Nat) (r : SagRecord) : SagRecord :=
      if w.profile.burstMs ≠ 0 ∧ g.burst.lastStop.any (fun a => decide (tick - w.n - a ≤ w.profile.burstMs * 1024 / 100)) ∧
          g.burst.id = none ∧ g.burst.lastNumber = some k then { r with burst := some (k, 1) }
      else r
    let ends (e : Event) (cut : Bool) : Prop :=
      t.1.span = spanClosed tick g.span ∧ t.1.burst.lastStop = some tick ∧ t.2.lastSag = x.lastSag ∧
      (w.profile.post = 0 →
        t.1.machine = (if cut then .latched else .quiet) ∧ t.1.event = none ∧
        ∃ c : Event, c.recorded = e.recorded ∧ c.number = e.number ∧ c.start = e.start ∧ c.stop = some tick ∧
          c.halves = e.halves + 1 ∧ c.flags.cut = cut ∧ completes c fun _ r => r) ∧
      (w.profile.post ≠ 0 → t.1.machine = .post ∧
        ∃ k, t.1.event = some k ∧ k.number = e.number ∧ k.start = e.start ∧ k.stop = some tick ∧
          k.halves = e.halves + 1 ∧ k.flags.cut = cut ∧ k.postLeft = w.profile.post * 2)
    (g.machine = .quiet → leaves → started ∧ t = startEvent w (g, x)) ∧
    (g.machine = .quiet → ¬leaves → t = (g, x)) ∧
    (∀ e, g.machine = .active → g.event = some e → whole → ends e false) ∧
    (∀ e, g.machine = .active → g.event = some e → ¬whole → w.profile.maxSeconds * 10240 ≤ tick - e.start →
      ends e true) ∧
    (∀ e, g.machine = .active → g.event = some e → ¬whole → tick - e.start < w.profile.maxSeconds * 10240 →
      t.1.machine = .active ∧ t.1.span = g.span ∧ t.1.burst = g.burst ∧ t.2.lastSag = x.lastSag ∧
      ∃ k, t.1.event = some k ∧ k.number = e.number ∧ k.start = e.start ∧ k.stop = e.stop ∧ k.halves = e.halves + 1) ∧
    (∀ e, g.machine = .post → g.event = some e → e.flags.cut = false → leaves →
      started ∧
      (let closed := { e with flags := { e.flags with postShort := true } }
      t = startEvent w (completeEvent id .quiet ({ g with event := some closed }, x))) ∧
      ((∀ k, e.number = some k → k ≤ x.lastSag) → completes { e with flags := { e.flags with postShort := true } } first)) ∧
    (∀ e, g.machine = .post → g.event = some e → e.flags.cut = true ∨ ¬leaves →
      t.1.span = g.span ∧ t.1.burst = g.burst ∧ t.2.lastSag = x.lastSag ∧
      (e.postLeft ≤ 1 → t.1.machine = (if e.flags.cut then .latched else .quiet) ∧ t.1.event = none ∧
        completes (e.writePost g.buffer w.words x).1 fun _ r => r) ∧
      (2 ≤ e.postLeft → t.1.machine = .post ∧
        ∃ k, t.1.event = some k ∧ k.number = e.number ∧ k.start = e.start ∧ k.stop = e.stop ∧ k.halves = e.halves ∧
          k.flags.cut = e.flags.cut ∧ k.postLeft = e.postLeft - 1)) ∧
    (g.machine = .latched → whole → t = ({ g with machine := .quiet }, x)) ∧
    (g.machine = .latched → ¬whole → t = (g, x))

/-- R93 (with R91, R96, R101): the update of an event at each of its boundaries. In ACTIVE each boundary widens the extremes of
the members evaluated, adds those not NORMAL to the involved set, sets the marks of the conditions as they stand and the flags
GAP, CLIPPED, NOMINAL and FLYWHEEL, and counts one half-cycle more, also at the boundary that ends the event, whose record is
then made of the event so updated. The involved channels stay in ascending order (`Gathers.rising`; in every event and record,
RecordListsKept). The rows of each such half-cycle are offered to the capture's body under the limit of body-cycles × 2
half-cycles (R105), which the body never passes; what that stores and when it marks BODY_CUT and TRUNCATED is
CapturePagesTaken. The first half-cycle is gathered the same way into an event that holds nothing yet. Half-cycles of the post
window add nothing to the event but the rows of its capture. -/
def Obligations.EventUpdates : Prop :=
  ∀ (id : GroupId) (w : BoundaryWork) (g : GroupEvents) (x : Events),
    let t := machineBoundary id w (g, x)
    let leaves : Prop := ∃ e ∈ w.evaluations, e.leavesNormal = true
    let gathers (e k : Event) : Prop := Gathers w.evaluations w.boundary.flags e k
    let limit := w.profile.body * 2
    let stores (e k : Event) (y : Events) : Prop :=
      let body := e.writeBody limit g.buffer w.words x
      k.capture = body.1.capture ∧ k.flags.bodyCut = body.1.flags.bodyCut ∧
        k.flags.truncated = body.1.flags.truncated ∧ y = body.2 ∧
        (e.capture.bodyHalves ≤ limit → k.capture.bodyHalves ≤ limit)
    (∀ e, g.machine = .active → g.event = some e →
      (∀ k, t.1.event = some k → gathers e k ∧ k.halves = e.halves + 1 ∧ stores e k t.2) ∧
      (∀ n, t.1.event = none → e.recorded = true → e.number = some n →
        ∃ k r y, gathers e k ∧ k.halves = e.halves + 1 ∧ k.stop = some w.boundary.tick ∧ stores e k y ∧
          RecordOf id.grp id.members id.voltage k n r ∧ t.2 = { y with sags := completed n r k.capture y.sags })) ∧
    (g.machine = .quiet ∨ (g.machine = .post ∧ ∃ e, g.event = some e ∧ e.flags.cut = false) → leaves →
      ∃ k, t.1.event = some k ∧ k.halves = 1 ∧
        gathers (Event.fresh k.number k.recorded k.start w.evaluations.length k.burst) k) ∧
    (∀ e k, g.machine = .post → g.event = some e → e.flags.cut = true ∨ ¬leaves → t.1.event = some k →
      let post := e.writePost g.buffer w.words x
      k = { e with
        capture := post.1.capture, postLeft := e.postLeft - 1
        flags := { e.flags with truncated := post.1.flags.truncated } } ∧ t.2 = post.2)

/-- R86, R91, R92, R99, R104, R105, R109: a row of samples taken into a half-cycle, the buffer's move into the history ring,
and the start of an event. The event claims an entry when one is free or the lowest candidate can be evicted (the first of the
list, which rises, RecordListsKept), and else is unrecorded and counted. The claimed entry is OPEN under the event's number,
with no pages, pin count 0 and keep count 0, and stands so after the capture has opened, where no entry has a number not yet
issued. A recorded event opens its capture with the rows of the half-cycles in the ring, as far as the ring holds them, and the
half-cycle just ended, the first of at most body-cycles × 2. The burst is judged from the last end tick, also for a start in
POST (entry 72), and the first event of a burst gains its fields afterwards. EventMachineMoves says at which boundaries an
event starts. -/
def Obligations.EventStartsAndStores : Prop :=
  (∀ (voltage : List VoltageMember) (row : List Sample) (g : GroupEvents),
    let t := g.takeRow voltage row
    t = { g with buffer := g.buffer ++ [row.map fun w => w.value], members := t.members } ∧
    ∀ (i : Nat) m v, g.members[i]? = some m → voltage[i]? = some v →
      let w := row.getD v.place ⟨0, true, false⟩
      t.members[i]? =
        some ⟨m.sum + w.value.natAbs * w.value.natAbs, m.gaps + (if w.gap then 1 else 0), m.clip || w.clip, m.condition⟩) ∧
  (∀ (pre n : Nat) (g : GroupEvents),
    (pre = 0 → g.moveRing pre n = { g with buffer := [] }) ∧
    (pre ≠ 0 →
      g.moveRing pre n =
        { g with
          buffer := []
          ring := (g.ring ++ g.buffer).drop (g.ring.length + g.buffer.length - pre * 256)
          ringLengths := (g.ringLengths ++ [n]).drop (g.ringLengths.length + 1 - pre * 2) })) ∧
  (∀ x : Events,
    let n := x.lastSag + 1
    let claimed (y : Events) : Events := { y with lastSag := n, sags := y.sags ++ [⟨n, .opened, [], [], 0, 0⟩] }
    let lost := min (x.unrecorded + 1) 65535
    (x.lastSag < 4294967295 → x.sags.length < 64 → x.openEvent = (claimed x, some n, true)) ∧
    (∀ c, x.lastSag < 4294967295 → 64 ≤ x.sags.length → x.sags.find? spare = some c →
      x.openEvent =
        (claimed
          { x with
            sags := x.sags.filter fun y => decide (y.number ≠ c.number), freePages := x.freePages ++ c.pages },
          some n, true)) ∧
    (x.lastSag < 4294967295 → 64 ≤ x.sags.length → x.sags.find? spare = none →
      x.openEvent = ({ x with lastSag := n, unrecorded := lost }, some n, false)) ∧
    (4294967295 ≤ x.lastSag → x.openEvent = ({ x with unrecorded := lost }, none, false))) ∧
  ∀ (w : BoundaryWork) (g : GroupEvents) (x : Events),
    let t := startEvent w (g, x)
    let start := w.boundary.tick - w.n
    let recorded : Prop := x.lastSag < 4294967295 ∧ (x.sags.length < 64 ∨ ∃ e ∈ x.sags, spare e = true)
    let joins : Prop :=
      w.profile.burstMs ≠ 0 ∧ ∃ last, g.burst.lastStop = some last ∧ start - last ≤ w.profile.burstMs * 1024 / 100
    ∃ e, t.1.event = some e ∧ e.start = start ∧ (e.recorded = true ↔ recorded) ∧
      (¬recorded → e.capture = ⟨[], 0, 0, 0, 0, [], false⟩ ∧ t.2.unrecorded = min (x.unrecorded + 1) 65535) ∧
      (recorded →
        let pre := g.ring.drop (g.ring.length - g.ringLengths.sum)
        ∃ a b, a ≤ pre.length ∧ b ≤ g.buffer.length ∧ e.capture.rows = pre.take a ++ g.buffer.take b ∧
          e.capture.pre = a ∧ e.capture.body = b ∧ e.capture.post = 0 ∧ (a < pre.length → b = 0) ∧
          (e.capture.stopped = false → a = pre.length ∧ (0 < w.profile.body → b = g.buffer.length)) ∧
          e.capture.bodyHalves = min 1 (w.profile.body * 2) ∧
          (e.capture.stopped = true → e.flags.truncated = true) ∧ t.2.unrecorded = x.unrecorded ∧
          e.number = some (x.lastSag + 1) ∧
          ((∀ y ∈ x.sags, y.number ≤ x.lastSag) → ⟨x.lastSag + 1, .opened, [], [], 0, 0⟩ ∈ t.2.sags)) ∧
      t.1.burst.lastStop = g.burst.lastStop ∧ t.1.burst.lastNumber = e.number ∧
      (¬joins → e.burst = none ∧ t.1.burst.id = none) ∧
      (∀ id, joins → g.burst.id = some id →
        e.burst = some (id, min (g.burst.position + 1) 255) ∧ t.1.burst.id = some id ∧
        t.1.burst.position = min (g.burst.position + 1) 255) ∧
      (∀ k, joins → g.burst.id = none → g.burst.lastNumber = some k →
        e.burst = some (k, 2) ∧ t.1.burst.id = some k ∧ t.1.burst.position = 2 ∧
        ∀ y ∈ t.2.sags, y.number = k → ∀ r, (y.status = .sent r ∨ ∃ again, y.status = .unsent again r) →
          r.burst = some (k, 1))

/-- R105, R106, R108: rows stored in a capture. A row that fits in the pages held is stored; one that does not takes the first
of the free pages (entry 16); while none is free, the first candidate of the sag list is evicted, the lowest one since the list
rises (RecordListsKept), and the row tried again (entry 17); without one the capture stops for good. A capture holds the pages
that its rows need. A body half-cycle beyond the body limit, which is body-cycles × 2 at every boundary (EventUpdates,
EventStartsAndStores), is not stored and marks BODY_CUT, unless the capture has stopped (entry 18); post half-cycles are stored
as they come; an unrecorded event stores nothing; a capture that stops marks TRUNCATED. -/
def Obligations.CapturePagesTaken : Prop :=
  (∀ (m : Nat) (w : Writing) (x : Events),
    let fits : Prop := (w.rows + 1) * m ≤ w.pages.length * 1024
    (w.stopped = true → writeRow m (w, x) = (w, x)) ∧
    (w.stopped = false → fits → writeRow m (w, x) = ({ w with rows := w.rows + 1 }, x)) ∧
    (∀ p rest, w.stopped = false → ¬fits → x.freePages = p :: rest →
      writeRow m (w, x) = (⟨w.rows + 1, w.pages ++ [p], false⟩, { x with freePages := rest })) ∧
    (∀ e, w.stopped = false → ¬fits → x.freePages = [] → x.sags.find? spare = some e →
      writeRow m (w, x) =
        writeRow m (w, { x with sags := x.sags.filter fun k => decide (k.number ≠ e.number), freePages := e.pages })) ∧
    (w.stopped = false → ¬fits → x.freePages = [] → x.sags.find? spare = none →
      writeRow m (w, x) = ({ w with stopped := true }, x))) ∧
  (∀ (rows : List (List Int)) (m : Nat) (c : Capture) (x : Events),
    let t := c.write rows m x
    Stores rows c t.1 t.2.1 ∧ t.1 = { c with rows := t.1.rows, pages := t.1.pages, stopped := t.1.stopped } ∧
    (c.stopped = true → t.1 = c ∧ t.2.2 = x) ∧
    (1 ≤ m → m ≤ 1024 → c.pages.length = (c.rows.length * m + 1023) / 1024 →
      t.1.pages.length = (t.1.rows.length * m + 1023) / 1024)) ∧
  (∀ (limit m : Nat) (rows : List (List Int)) (e : Event) (x : Events),
    let body := e.writeBody limit rows m x
    let post := e.writePost rows m x
    let marked (c : Capture) : EventFlags := if c.stopped then { e.flags with truncated := true } else e.flags
    (e.recorded = false → body = (e, x) ∧ post = (e, x)) ∧
    (e.recorded = true → e.capture.bodyHalves < limit →
      ∃ c k, Stores rows e.capture c k ∧ c.pre = e.capture.pre ∧ c.body = e.capture.body + k ∧ c.post = e.capture.post ∧
        c.bodyHalves = e.capture.bodyHalves + 1 ∧ body.1 = { e with capture := c, flags := marked c }) ∧
    (e.recorded = true → limit ≤ e.capture.bodyHalves →
      body = (if e.capture.stopped then e else { e with flags := { e.flags with bodyCut := true } }, x)) ∧
    (e.recorded = true →
      ∃ c k, Stores rows e.capture c k ∧ c.pre = e.capture.pre ∧ c.body = e.capture.body ∧ c.post = e.capture.post + k ∧
        c.bodyHalves = e.capture.bodyHalves ∧ post.1 = { e with capture := c, flags := marked c }))

/-- R96, R101 to R103, R107: an event that completes leaves its group, whose machine takes its next state. The entry of a
recorded one becomes UNSENT with the record of the event, and with the pages and rows of its capture; an unrecorded one leaves
no record. -/
def Obligations.RecordCompletes : Prop :=
  ∀ (id : GroupId) (next : MachineState) (g : GroupEvents) (x : Events) (e : Event), g.event = some e →
    let t := completeEvent id next (g, x)
    t.1 = { g with event := none, machine := next } ∧
    (e.recorded = false ∨ e.number = none → t.2 = x) ∧
    ∀ k, e.recorded = true → e.number = some k →
      ∃ r, RecordOf id.grp id.members id.voltage e k r ∧ t.2 = { x with sags := completed k r e.capture x.sags }

/-- R110, R15: the frames of the sag entry being emitted, one per step while the record queue has room. The record frame goes
first, taking the unrecorded count into its lost-before field unless the entry is a repeat; then the capture frames of each
member, 240 samples at a time. With the last one the entry is SENT, and CLOSING ends when nothing else is unsent, with a SURVEY
notice of cause DRAINED. Without room, or with nothing unsent, no frame goes (entry 1); the entry is chosen when the step is
taken and stays chosen (entry 44). R111: READ-SAG refuses number 0, a number that no retained entry holds, and an UNSENT entry;
a SENT entry becomes UNSENT again, marked for repeat, and the reply gives its number and the count of frames to be sent. -/
def Obligations.SagsEmittedAndRepeated : Prop :=
  (∀ s : State,
    let unsent (e : SagEntry) : Bool := match e.status with | .unsent _ _ => true | _ => false
    (s.events.emission = none → (∀ e ∈ s.events.sags, unsent e = false) → exec .sagRecordEmit s = .next s) ∧
    ∀ (e : SagEntry) (again : Bool) (r : SagRecord) (k : Nat),
      (s.events.emission = none ∧ s.events.sags.find? unsent = some e ∧ k = 0 ∨
        s.events.emission = some ⟨e.number, k⟩) →
      s.events.sags.find? (fun x => decide (x.number = e.number)) = some e → e.status = .unsent again r →
      let members := r.capture.elim [] fun c => c.members
      let perMember := (e.rows.length + 239) / 240
      let stamped := if k = 0 ∧ again = false then { r with lostBefore := s.events.unrecorded } else r
      let frame :=
        if k = 0 then RecordFrame.sag stamped again
        else
          .capture e.number (members.getD ((k - 1) / perMember) 0) ((k - 1) % perMember * 240)
            (((e.rows.drop ((k - 1) % perMember * 240)).take 240).map fun row => row.getD ((k - 1) / perMember) 0)
      let last := 1 + members.length * perMember ≤ k + 1
      let sags := s.events.sags.map fun x =>
        if x.number = e.number then
          { x with status := if last then .sent stamped else .unsent again stamped }
        else x
      let drained : Bool :=
        decide (last ∧ s.survey.state = .closing ∧ (∀ x ∈ sags, x.status.isSent = true) ∧
          (∀ x ∈ s.harmonics.intervals, x.sent = true))
      (s.link.records.length < 32 →
        ∃ t, exec .sagRecordEmit s = .next t ∧
          t.link =
            { (if drained then s.link.offer ⟨s.survey.tick, .survey .closed s.survey.number .drained⟩ else s.link) with
              records := s.link.records ++ [frame] } ∧
          t.events =
            { s.events with
              sags := sags
              unrecorded := if k = 0 ∧ again = false then 0 else s.events.unrecorded
              emission := if last then none else some ⟨e.number, k + 1⟩ } ∧
          t.survey = { s.survey with state := if drained then .closed else s.survey.state } ∧
          t.trackers = s.trackers ∧ t.harmonics = s.harmonics ∧ t.notes = s.notes ∧ t.pods = s.pods ∧ t.ring = s.ring ∧
          t.printer = s.printer) ∧
      (32 ≤ s.link.records.length →
        exec .sagRecordEmit s = .next { s with events := { s.events with emission := some ⟨e.number, k⟩ } })) ∧
  (∀ (s u : State) (tag : Byte) (n : Nat), Takes s tag (.readSag n) u →
    let refused (r : ResultCode) : Prop := exec (.readSag tag n) s = .next (replied tag 0x55 r [] u)
    let held (e : SagEntry) : Bool := decide (e.number = n) && decide (e.status ≠ .opened)
    (n = 0 → refused .badValue) ∧
    (n ≠ 0 → (∀ e ∈ u.events.sags, held e = false) → refused .unknownItem) ∧
    ∀ e, n ≠ 0 → u.events.sags.find? held = some e →
      (∀ again r, e.status = .unsent again r → refused .badState) ∧
      (∀ r, e.status = .sent r →
        exec (.readSag tag n) s =
          .next (replied tag 0x55 .ok
            (u32 n ++ u16 (1 + (r.capture.elim 0 fun c => c.members.length) * ((e.rows.length + 239) / 240)))
            { u with events :=
              { u.events with sags :=
                u.events.sags.map fun x => if x.number = n then { x with status := .unsent true r } else x } })))

/-! ## Harmonic records (06) -/

/-- R117 to R122: the Harmonic Analyser at an announced boundary of an analysed group. A pending cycle is settled first,
judged by the spans of the group, and the interval closes when that completes its last block. Then a falling boundary keeps
the flags of the half-cycle it ends; a rising one that names a cycle closes it, with the amplitudes of order 1 and each listed
order for the members it is valid for; and either rising one starts the buffer afresh. -/
def Obligations.CyclesClose : Prop :=
  ∀ (s : State) (n : Grp) (g : GroupFields) (b : Boundary),
    let t := s.harmonicBoundary n g b
    let put (y : GroupHarmonics) (u : State) : State :=
      { u with harmonics := { u.harmonics with groups := u.harmonics.groups.set n y } }
    (s.analysedBins g = none → t = s) ∧
    ∀ bins, s.analysedBins g = some bins →
      let x := s.harmonics.groups.get n
      ∃ u,
        (x.pending = none → u = s) ∧
        (∀ c, x.pending = some c →
          let y := x.addCycle bins c (overlaps (s.events.groups.get n).span c)
          (y.interval.total < 2 ^ bins.exponent → u = put y s) ∧
          (2 ^ bins.exponent ≤ y.interval.total → u = (put y s).closeInterval n g bins c.stop b.period false)) ∧
        let z := u.harmonics.groups.get n
        let afresh := { z with buffer := [], overlong := false, halves := [] }
        (b.edge = .falling → t = put { z with halves := (z.halves ++ [b.flags]).drop (z.halves.length + 1 - 2) } u) ∧
        (b.edge = .rising → b.cycleStart = none → t = put afresh u) ∧
        ∀ start, b.edge = .rising → b.cycleStart = some start →
          ∃ amplitudes, t = put { afresh with pending := some ⟨start, b.tick, amplitudes⟩ } u ∧
            amplitudes.length = (s.survey.analysed g).length ∧
            ∀ i, i < (s.survey.analysed g).length →
              let xs := z.buffer.map fun row => row.getD i ⟨0, true, false⟩
              let place (h k : Nat) : Nat := k * h * 1024 / xs.length % 1024
              let sum (table : Nat → Int) (h : Nat) : Int :=
                ((List.range xs.length).map fun k => (xs.getD k ⟨0, true, false⟩).value * table (place h k)).sum
              let valid : Prop :=
                (∃ a, z.halves.getLast? = some a ∧ a.tracked = true ∧ a.resync = false ∧ a.short = false) ∧
                b.flags.tracked = true ∧ b.flags.resync = false ∧ b.flags.short = false ∧ z.overlong = false ∧
                b.tick - start ≤ 256 ∧ ∀ w ∈ xs, w.gap = false ∧ w.clip = false
              (¬valid → amplitudes[i]? = some none) ∧
              (valid →
                amplitudes[i]? =
                  some (some ((1 :: bins.orders).map fun h => h16 xs.length (sum cosine h) (sum sine h))))

/-- R123: a settled cycle in the block and interval accumulators. It adds to the cycle count, marks the block when it is
event-touched and adds its squares for the members it is valid for. The block that reaches its length counts once in the
interval: as event-flagged when marked, as used when every member has at least half of the length valid, rounded up, and as
invalid otherwise; only a used block adds values. Then the block starts afresh. -/
def Obligations.BlocksClassified : Prop :=
  ∀ (bins : BinFields) (c : PendingCycle) (touched : Bool) (x : GroupHarmonics),
    let y := x.addCycle bins c touched
    let full : Prop := bins.blockLength ≤ x.block.cycles + 1
    let marked : Prop := x.block.event = true ∨ touched = true
    let valid := (x.block.valid.zip c.amplitudes).map fun k => k.1 + (if k.2 = none then 0 else 1)
    let sums := (x.block.sums.zip c.amplitudes).map fun k =>
      k.2.elim k.1 fun l => (k.1.zip l).map fun v => v.1 + v.2 * v.2
    let good : Prop := ∀ v ∈ valid, (bins.blockLength + 1) / 2 ≤ v
    let counts (used flagged invalid : Nat) : Prop :=
      y.interval.total = x.interval.total + 1 ∧ y.interval.used = x.interval.used + used ∧
      y.interval.flagged = x.interval.flagged + flagged ∧ y.interval.invalid = x.interval.invalid + invalid
    y.pending = none ∧ y.interval.start = some (x.interval.start.getD c.start) ∧ y.summary = x.summary ∧
    (¬full →
      y.block.cycles = x.block.cycles + 1 ∧ (y.block.event = true ↔ marked) ∧ y.block.valid = valid ∧
      y.block.sums = sums ∧ y.interval = { x.interval with start := y.interval.start }) ∧
    (full →
      y.block.cycles = 0 ∧ y.block.event = false ∧ (∀ v ∈ y.block.valid, v = 0) ∧ (∀ l ∈ y.block.sums, ∀ v ∈ l, v = 0) ∧
      (marked → counts 0 1 0 ∧ y.interval.sums = x.interval.sums) ∧
      (¬marked → ¬good → counts 0 0 1 ∧ y.interval.sums = x.interval.sums) ∧
      (¬marked → good → counts 1 0 0 ∧
        y.interval.sums =
          (x.interval.sums.zip (sums.zip valid)).map fun k =>
            (k.1.zip k.2.1).map fun v => v.1 + isqrt (v.2 / k.2.2) * isqrt (v.2 / k.2.2)))

/-- R124 to R128, R131: an interval closes. Its record has the values, ratios, THD and exceed sets of its members, the
accumulator starts afresh, and an interval that is not EMPTY updates the group summary. It takes the next number and a list
entry, a free one or the first candidate's, or goes straight to the record queue when there is room for all its frames; one
that finds neither, or no number left, is lost and counted. -/
def Obligations.IntervalsClose : Prop :=
  ∀ (s : State) (n : Grp) (g : GroupFields) (bins : BinFields) (stop period : Nat) (isPartial : Bool),
    let t := s.closeInterval n g bins stop period isPartial
    let x := s.harmonics.groups.get n
    let y := t.harmonics.groups.get n
    let h := s.harmonics
    let members := s.survey.analysed g
    let kept (e : IntervalEntry) : Bool := e.sent && decide (e.pins = 0)
    ∃ r, IntervalOf n bins members stop period isPartial x.interval r ∧
      t = { s with harmonics := t.harmonics, link := t.link } ∧
      t.harmonics.groups = h.groups.set n { x with interval := y.interval, summary := y.summary } ∧
      y.interval = ⟨List.replicate members.length (List.replicate (bins.orders.length + 1) 0), 0, 0, 0, 0, none⟩ ∧
      y.summary = { x.summary with cells := y.summary.cells } ∧
      (r.isEmpty = true → y.summary.cells = x.summary.cells) ∧
      (r.isEmpty = false →
        ∀ (i j : Nat) cells c k, x.summary.cells[i]? = some cells → cells[j]? = some c → r.sections[i]? = some k →
          ∃ new, y.summary.cells[i]? = some new ∧
            (∀ v, j = 0 → k.fundamental = some v →
              new[j]? = some ⟨max c.peak v, some (c.minimum.elim v fun m => min m v), none, c.exceedances⟩) ∧
            (∀ o, 1 ≤ j → k.orders[j - 1]? = some o →
              new[j]? =
                some ⟨max c.peak o.value, some (c.minimum.elim o.value fun m => min m o.value), o.ratio,
                  if o.order ∈ k.exceeded then min (c.exceedances + 1) 65535 else c.exceedances⟩)) ∧
      (4294967295 ≤ h.lastInterval →
        t.link = s.link ∧
        t.harmonics = { h with groups := t.harmonics.groups, lost := min (h.lost + 1) 65535 }) ∧
      (h.lastInterval < 4294967295 →
        r.number = h.lastInterval + 1 ∧
        (h.intervals.length < 96 →
          t.link = s.link ∧
          t.harmonics =
            { h with
              groups := t.harmonics.groups, lastInterval := r.number, intervals := h.intervals ++ [⟨r, false, 0⟩] }) ∧
        (∀ e, 96 ≤ h.intervals.length → h.intervals.find? kept = some e →
          t.link = s.link ∧
          t.harmonics =
            { h with
              groups := t.harmonics.groups, lastInterval := r.number
              intervals := h.intervals.filter (fun k => decide (k.record.number ≠ e.record.number)) ++ [⟨r, false, 0⟩] }) ∧
        (96 ≤ h.intervals.length → h.intervals.find? kept = none →
          let parts := (r.sections.length + 3) / 4
          (parts ≤ 32 - s.link.records.length →
            t.link =
              { s.link with
                records := s.link.records ++ (List.range parts).map fun i =>
                  .interval { r with lostBefore := h.lost } (i + 1) parts ((r.sections.drop (4 * i)).take 4) } ∧
            t.harmonics = { h with groups := t.harmonics.groups, lastInterval := r.number, lost := 0 }) ∧
          (32 - s.link.records.length < parts →
            t.link = s.link ∧
            t.harmonics =
              { h with
                groups := t.harmonics.groups, lastInterval := r.number, lost := min (h.lost + 1) 65535 })))

/-- R131, R132, R15: the frames of the interval entry being emitted, one per step while the record queue has room, each with up
to four channel sections. The first takes the lost count; with the last one the entry is SENT, and CLOSING ends when nothing
else is unsent, with a SURVEY notice of cause DRAINED. Without room, or with nothing unsent, no frame goes (entry 1); the entry
is chosen when the step is taken and stays chosen (entry 44). -/
def Obligations.IntervalRecordEmitted : Prop :=
  ∀ s : State,
    (s.harmonics.emission = none → (∀ e ∈ s.harmonics.intervals, e.sent = true) →
      exec .intervalRecordEmit s = .next s) ∧
    ∀ (e : IntervalEntry) (k : Nat),
      (s.harmonics.emission = none ∧ s.harmonics.intervals.find? (fun x => !x.sent) = some e ∧ k = 0 ∨
        s.harmonics.emission = some ⟨e.record.number, k⟩) →
      s.harmonics.intervals.find? (fun x => decide (x.record.number = e.record.number)) = some e →
      let r := if k = 0 then { e.record with lostBefore := s.harmonics.lost } else e.record
      let parts := (e.record.sections.length + 3) / 4
      let last : Bool := parts ≤ k + 1
      let intervals := s.harmonics.intervals.map fun x =>
        if x.record.number = e.record.number then { x with record := r, sent := last } else x
      let drained : Bool :=
        decide (last = true ∧ s.survey.state = .closing ∧ (∀ x ∈ s.events.sags, x.status.isSent = true) ∧
          (∀ x ∈ intervals, x.sent = true))
      (s.link.records.length < 32 →
        ∃ t, exec .intervalRecordEmit s = .next t ∧
          t.link =
            { (if drained then s.link.offer ⟨s.survey.tick, .survey .closed s.survey.number .drained⟩ else s.link) with
              records := s.link.records ++ [.interval r (k + 1) parts ((e.record.sections.drop (4 * k)).take 4)] } ∧
          t.harmonics =
            { s.harmonics with
              intervals := intervals
              lost := if k = 0 then 0 else s.harmonics.lost
              emission := if last then none else some ⟨e.record.number, k + 1⟩ } ∧
          t.survey = { s.survey with state := if drained then .closed else s.survey.state } ∧
          t.trackers = s.trackers ∧ t.events = s.events ∧ t.notes = s.notes ∧ t.pods = s.pods ∧ t.ring = s.ring ∧
          t.printer = s.printer) ∧
      (32 ≤ s.link.records.length →
        exec .intervalRecordEmit s =
          .next { s with harmonics := { s.harmonics with emission := some ⟨e.record.number, k⟩ } })

/-! ## Site notes (07) -/

/-- R136: SET-IDENTITY is checked state, operands, written marks, the first failure deciding; an accepted one writes every
field it gives and answers the fields now written, and a refused one writes none. Of several lengths out of range the lowest
field is named (entry 46). The form of the list of fields is the model's (entry 26). -/
def Obligations.SetIdentityWrites : Prop :=
  ∀ (s u : State) (tag : Byte) (f : IdentityFields), Takes s tag (.setIdentity f) u →
    let i := u.notes.identity
    let answers (r : ResultCode) (data : List Byte) (v : State) : Prop :=
      exec (.setIdentity tag f) s = .next (replied tag 0x20 r data v)
    (u.survey.state ≠ .opened → answers .notOpen [] u) ∧
    (u.survey.state = .opened →
      (f = ⟨none, none, none⟩ → answers .badValue [0x00] u) ∧
      (f ≠ ⟨none, none, none⟩ → ∀ k, identityFault f = some k → answers .badValue [BitVec.ofNat 8 k] u) ∧
      (f ≠ ⟨none, none, none⟩ → identityFault f = none → ∀ k, identityTaken i f = some k →
        answers .alreadySet [BitVec.ofNat 8 k] u) ∧
      (f ≠ ⟨none, none, none⟩ → identityFault f = none → identityTaken i f = none →
        answers .ok
          [BitVec.ofNat 8 ((if f.site = none ∧ i.site = none then 0 else 1) +
            (if f.crew = none ∧ i.crew = none then 0 else 2) + (if f.client = none ∧ i.client = none then 0 else 4))]
          { u with notes :=
            { u.notes with identity :=
              { i with
                site := if f.site = none then i.site else f.site
                crew := if f.crew = none then i.crew else f.crew
                client := if f.client = none then i.client else f.client } } }))

/-- R138 to R141: ADD-NOTE is checked state, operands, issued links, room; an accepted one appends one LIVE note with the
operands, made at the current tick, its text readable through its chain of newly taken segments, its sag link judged for a
keep, and its number in the pending set. Nothing else changes but the keep of the entry it links. Of several operands out of
range the lowest place is named (entry 46). -/
def Obligations.AddNoteCreates : Prop :=
  ∀ (s u : State) (tag : Byte) (f : NoteFields), Takes s tag (.addNote f) u →
    let x := u.notes
    let answers (r : ResultCode) (data : List Byte) : Prop :=
      exec (.addNote tag f) s = .next (replied tag 0x21 r data u)
    let unissued : Option Nat :=
      if ∃ n ∈ f.sag, u.events.lastSag < n then some 3
      else if ∃ n ∈ f.interval, u.harmonics.lastInterval < n then some 4 else none
    let room : Prop := x.notes.length < 128 ∧ (f.text.length + 31) / 32 ≤ 512 - x.segments.length
    (u.survey.state ≠ .opened → answers .notOpen []) ∧
    (u.survey.state = .opened →
      (∀ k, noteFault u.survey.tick f = some k → answers .badValue [BitVec.ofNat 8 k]) ∧
      (noteFault u.survey.tick f = none → ∀ k, unissued = some k → answers .unknownItem [BitVec.ofNat 8 k]) ∧
      (noteFault u.survey.tick f = none → unissued = none → ¬room →
        answers .noRoom (u8 (128 - x.notes.length) ++ u16 (512 - x.segments.length))) ∧
      (noteFault u.survey.tick f = none → unissued = none → room →
        ∃ v note, exec (.addNote tag f) s =
            .next (replied tag 0x21 .ok
              [if f.sag = none then 0 else 1, BitVec.ofNat 8 (x.notes.length + 1),
                f.sag.elim 0 fun n => if keeps u n then 1 else 2] v) ∧
          v.notes.notes = x.notes ++ [note] ∧ crewKinds[f.kind - 1]? = some note.kind ∧
          note.made = u.survey.tick ∧ note.refer = f.refer.getD u.survey.tick ∧
          note.sag = f.sag.map (fun n => ⟨n, keeps u n⟩) ∧ note.interval = f.interval ∧
          note.pod = f.pod.bind (ofNumber 12) ∧ note.predecessor = none ∧ note.state = .live ∧
          note.length = f.text.length ∧ v.notes.textOf note = f.text ∧
          (∃ more, v.notes.segments = x.segments ++ more ∧ more.length = (f.text.length + 31) / 32) ∧
          (∀ k, k ∈ v.notes.pending ↔ k ∈ x.pending ∨ k = x.notes.length + 1) ∧
          v.notes.identity = x.identity ∧ v.notes.markLost = x.markLost ∧ v.notes.lastMark = x.lastMark ∧
          v.notes.kept = (f.sag.elim x.kept fun n => if keeps u n then keptWith n x.kept else x.kept) ∧
          v = { u with
            notes := v.notes
            events := { u.events with
              sags := f.sag.elim u.events.sags fun n =>
                if keeps u n then keepCounts n (· + 1) u.events.sags else u.events.sags } }))

/-- R142 to R144: AMEND-NOTE is checked state, operands, numbers, the note's state, room; an accepted one appends a LIVE
successor, whose operands left out are the old note's and whose links given as NONE are absent, and makes the old note
AMENDED; both numbers join the pending set (of several operands out of range the lowest place is named, entry 46). A sag link
left out, or given with the old number, is inherited with its keep state; otherwise the old keep is released first and a new
link is judged after it. R145, R142: WITHDRAW-NOTE is refused outside OPEN, for a number outside 1..128, for one above the
last note number, and for a note that is not LIVE, with its state; taken, the note becomes WITHDRAWN, its keep is released and
its number joins the pending set, while its text, links and segments stay. -/
def Obligations.NotesAmendedAndWithdrawn : Prop :=
  (∀ (s u : State) (tag : Byte) (n : Nat) (f : AmendFields), Takes s tag (.amendNote n f) u →
    let x := u.notes
    let answers (r : ResultCode) (data : List Byte) : Prop :=
      exec (.amendNote tag n f) s = .next (replied tag 0x22 r data u)
    let unissued : Option Nat :=
      if x.notes.length < n then some 0
      else if ∃ k ∈ linkNumber f.sag, u.events.lastSag < k then some 3
      else if ∃ k ∈ linkNumber f.interval, u.harmonics.lastInterval < k then some 4 else none
    (u.survey.state ≠ .opened → answers .notOpen []) ∧
    (u.survey.state = .opened →
      (∀ k, amendFault u.survey.tick n f = some k → answers .badValue [BitVec.ofNat 8 k]) ∧
      (amendFault u.survey.tick n f = none → ∀ k, unissued = some k → answers .unknownItem [BitVec.ofNat 8 k]) ∧
      (amendFault u.survey.tick n f = none → unissued = none → ∀ old, x.notes[n - 1]? = some old →
        let room : Prop :=
          x.notes.length < 128 ∧ ∀ t ∈ f.text, (t.length + 31) / 32 ≤ 512 - x.segments.length
        (∀ k, old.state = .amended k → answers .badState [0x01, 0x02, BitVec.ofNat 8 k]) ∧
        (old.state = .withdrawn → answers .badState [0x00, 0x03, 0x00]) ∧
        (old.state = .live → ¬room → answers .noRoom []) ∧
        (old.state = .live → room →
          ∃ v note, exec (.amendNote tag n f) s =
              .next (replied tag 0x22 .ok
                [if note.sag = none then 0 else 1, BitVec.ofNat 8 (x.notes.length + 1),
                  note.sag.elim 0 fun l => if l.kept then 1 else 2] v) ∧
            v.notes.notes = x.notes.set (n - 1) { old with state := .amended (x.notes.length + 1) } ++ [note] ∧
            note.state = .live ∧ note.predecessor = some n ∧ note.made = u.survey.tick ∧
            (f.kind = none → note.kind = old.kind) ∧
            (∀ k, f.kind = some k → crewKinds[k - 1]? = some note.kind) ∧
            note.refer = f.refer.getD old.refer ∧
            (f.interval = .leftOut → note.interval = old.interval) ∧ (f.interval = .none → note.interval = none) ∧
            (∀ k, f.interval = .given k → note.interval = some k) ∧
            (f.pod = .leftOut → note.pod = old.pod) ∧ (f.pod = .none → note.pod = none) ∧
            (∀ k, f.pod = .given k → note.pod = ofNumber 12 k) ∧
            (f.text = none → note.chain = old.chain ∧ note.length = old.length ∧ v.notes.segments = x.segments) ∧
            (∀ t, f.text = some t → v.notes.textOf note = t ∧ note.length = t.length ∧
              ∃ more, v.notes.segments = x.segments ++ more ∧ more.length = (t.length + 31) / 32) ∧
            (∀ k, k ∈ v.notes.pending ↔ k ∈ x.pending ∨ k = n ∨ k = x.notes.length + 1) ∧
            (let released := match old.sag with
              | some ⟨k, true⟩ => { u with
                  notes := { x with kept := keptWithout k x.kept }
                  events := { u.events with sags := keepCounts k (· - 1) u.events.sags } }
              | _ => u
            (f.sag = .leftOut ∨ (∃ l, old.sag = some l ∧ f.sag = .given l.sag) →
              note.sag = old.sag ∧ v.notes.kept = x.kept ∧ v.events = u.events) ∧
            (f.sag = .none →
              note.sag = none ∧ v.notes.kept = released.notes.kept ∧ v.events = released.events) ∧
            (∀ k, f.sag = .given k → (∀ l ∈ old.sag, l.sag ≠ k) →
              note.sag = some ⟨k, keeps released k⟩ ∧
              v.notes.kept = (if keeps released k then keptWith k released.notes.kept else released.notes.kept) ∧
              v.events.sags =
                (if keeps released k then keepCounts k (· + 1) released.events.sags
                 else released.events.sags))) ∧
            v = { u with notes := v.notes, events := { u.events with sags := v.events.sags } } ∧
            v.notes.identity = x.identity ∧ v.notes.markLost = x.markLost ∧ v.notes.lastMark = x.lastMark)))) ∧
  (∀ (s u : State) (tag : Byte) (n : Nat), Takes s tag (.withdrawNote n) u →
    let x := u.notes
    let answers (r : ResultCode) (data : List Byte) (v : State) : Prop :=
      exec (.withdrawNote tag n) s = .next (replied tag 0x23 r data v)
    (u.survey.state ≠ .opened → answers .notOpen [] u) ∧
    (u.survey.state = .opened →
      (n = 0 ∨ 128 < n → answers .badValue [] u) ∧
      (1 ≤ n → n ≤ 128 → x.notes.length < n → answers .unknownItem [] u) ∧
      ∀ old, 1 ≤ n → n ≤ 128 → x.notes[n - 1]? = some old →
        (∀ k, old.state = .amended k → answers .badState [0x02] u) ∧
        (old.state = .withdrawn → answers .badState [0x03] u) ∧
        (old.state = .live →
          ∃ pending, (∀ k, k ∈ pending ↔ k ∈ x.pending ∨ k = n) ∧
            let notes := { x with notes := x.notes.set (n - 1) { old with state := .withdrawn }, pending := pending }
            (∀ k, old.sag = some ⟨k, true⟩ →
              answers .ok [BitVec.ofNat 8 n]
                { u with
                  notes := { notes with kept := keptWithout k x.kept }
                  events := { u.events with sags := keepCounts k (· - 1) u.events.sags } }) ∧
            ((∀ k, old.sag ≠ some ⟨k, true⟩) → answers .ok [BitVec.ofNat 8 n] { u with notes := notes }))))

/-- R146: MARK makes a MARK note at the current tick while the survey is OPEN and the table holds fewer than 128 notes, with
no links, no text and no segments, whatever marks the pods have made; otherwise the mark is lost, the mark-lost count is
incremented, and the reply is NOT_OPEN or NO_ROOM. -/
def Obligations.MarkMakesNote : Prop :=
  ∀ (s u : State) (tag : Byte), Takes s tag .mark u →
    let x := u.notes
    let lost : State := { u with notes := { x with markLost := min (x.markLost + 1) 65535 } }
    (u.survey.state ≠ .opened → exec (.mark tag) s = .next (replied tag 0x24 .notOpen [] lost)) ∧
    (u.survey.state = .opened → 128 ≤ x.notes.length →
      exec (.mark tag) s = .next (replied tag 0x24 .noRoom [] lost)) ∧
    (u.survey.state = .opened → x.notes.length < 128 →
      ∃ pending, (∀ k, k ∈ pending ↔ k ∈ x.pending ∨ k = x.notes.length + 1) ∧
        exec (.mark tag) s =
          .next (replied tag 0x24 .ok [BitVec.ofNat 8 (x.notes.length + 1)]
            { u with notes :=
              { x with
                notes := x.notes ++
                  [⟨.mark, u.survey.tick, u.survey.tick, none, none, none, none, 0, none, .live⟩]
                pending := pending } }))

/-- R149, R150: READ-NOTE answers a note as it stands or the identity, in every survey state, and changes nothing but the
reply queue; an absent survey number and open wall time are sent as 0 (entry 45). NOTE_RECORD_EMIT offers the frame of the
note at the head of the pending set, the lowest since the set rises (RecordListsKept), built as it stands, when the record
queue has room, and the number leaves the set; otherwise nothing changes (entry 1). -/
def Obligations.NotesReadAndSent : Prop :=
  (∀ (s u : State) (tag : Byte) (which : NoteSelector), Takes s tag (.readNote which) u →
    let answers (r : ResultCode) (data : List Byte) : Prop :=
      exec (.readNote tag which) s = .next (replied tag 0x25 r data u)
    (which = .identity → answers .ok (identityBytes u.notes.identity)) ∧
    (∀ n, which = .note n →
      (n = 0 ∨ 128 < n → answers .badValue []) ∧
      (1 ≤ n → n ≤ 128 → u.notes.notes.length < n → answers .unknownItem []) ∧
      (∀ note, 1 ≤ n → n ≤ 128 → u.notes.notes[n - 1]? = some note →
        answers .ok (noteBytes ⟨n, note, u.notes.textOf note⟩)))) ∧
  (∀ s : State,
    (s.notes.pending = [] → exec .noteRecordEmit s = .next s) ∧
    ∀ n rest note, s.notes.pending = n :: rest → 1 ≤ n → s.notes.notes[n - 1]? = some note →
      (s.link.records.length < 32 →
        exec .noteRecordEmit s =
          .next { s with
            link := { s.link with records := s.link.records ++ [.note ⟨n, note, s.notes.textOf note⟩] }
            notes := { s.notes with pending := rest } }) ∧
      (32 ≤ s.link.records.length → exec .noteRecordEmit s = .next s))

/-! ## Lists, pages and holders (05 to 08) -/

/-- R92, R96, R101, R107, R127, R130, R135 to R141, R150: every step keeps the sag list and the interval list rising by number
and the pending set rising, within the numbers issued, every retained sag entry with a record of its own number, the involved
channels of every event and record rising, and each list within its size, for every command and every state in which they are
so. -/
def Obligations.RecordListsKept : Prop :=
  ∀ s t : State, ListBounds s → step s = .next t → ListBounds t

/-- R107 (with R91, R106, R108, R109, R113): every step keeps the 128 capture pages accounted for, each of them free, reserved
for one history, held by one record or by the capture of one event in progress, for every command and every state in which
they are so and the events in progress have OPEN entries and numbers of their own. -/
def Obligations.PagesKept : Prop :=
  ∀ s t : State, PagesAccounted s → step s = .next t → PagesAccounted t

/-- R108, R130, R141, R142, R157, R169: every step keeps the keep counts and the pin counts equal to the LIVE notes and the
live jobs that hold each entry, and what they hold retained, for every command and every state in which they are so. -/
def Obligations.HoldersKept : Prop :=
  ∀ s t : State, HoldersCounted s → step s = .next t → HoldersCounted t

/-! ## Report printing (08) -/

/-- R158 to R164: what a section of the report holds, from the state as it stands when its composition begins. Every text line
holds 48 characters of 0x20..0x7E, a number prints in decimal without leading zeros, and a section begins with its heading and
prints NONE when it has nothing to show. An item longer than 48 characters goes on over further lines, other characters print
as '?', and a line is filled with spaces. The sag sections hold the records of the selection that pass the filter, the harmonic
ones the groups of both masks, NOTES the LIVE notes of the kinds and range. Each line of each section holds the items that R160
to R164 name, in their order, one space between two and dashes for an absent one; the text of a note follows in lines of 48. A
strip dots each column from its highest to its lowest sample, and row 32 in every eighth column. How the items share lines is
the model's choice (entry 21), as are the dashes of an absent survey number or wall time (free values, entry 20), the
exceedance count of order 1 (entry 49), that ring modes, pod states, off reasons and kinds print as names (entry 60), and the
group and order numbers in HARMONIC_PEAKS (entry 70). -/
def Obligations.SectionsComposed : Prop :=
  (∀ (j : Job) (s : State) (k : Sect) (line : List Byte), .text line ∈ composeSect j s k →
    line.length = 48 ∧ ∀ c ∈ line, 0x20 ≤ c.toNat ∧ c.toNat ≤ 0x7E) ∧
  (∀ n : Nat,
    (decimal n).foldl (fun v c => v * 10 + (c.toNat - 48)) 0 = n ∧ (∀ c ∈ decimal n, 48 ≤ c.toNat ∧ c.toNat ≤ 57) ∧
    (n ≠ 0 → (decimal n).head? ≠ some 48#8)) ∧
  (∀ text : List Byte,
    linesOf text =
      (List.range (max 1 ((text.length + 47) / 48))).map fun i =>
        let part := ((text.drop (48 * i)).take 48).map fun c => if 0x20 ≤ c.toNat ∧ c.toNat ≤ 0x7E then c else 63#8
        .text (part ++ List.replicate (48 - part.length) 32#8)) ∧
  (let line (items : List (List Byte)) : List Byte := [32#8].intercalate items
  let field (width : Nat) (x : Option (List Byte)) : List Byte := x.getD (List.replicate width 45#8)
  let flags (l : List (Bool × String)) : List (List Byte) :=
    l.filterMap fun k => if k.1 = true then some (ascii k.2) else none
  (∀ (j : Job) (i : Identity),
    titleLines j i =
      [line
         [field Config.surveyNumberDashes (i.number.map decimal), field 8 i.site,
          field Config.wallTimeDashes (i.wall.map decimal)],
       line [field 4 i.crew, field 24 i.client],
       line [decimal j.number, decimal j.copy, decimal j.copies, decimal j.printTick]]) ∧
  (∀ s : State,
    let mode : String :=
      match s.ring.mode with
      | .forward => "FORWARD" | .reverse => "REVERSE" | .split => "SPLIT" | .search => "SEARCH" | .down => "DOWN"
    let state (x : PodState) : String :=
      match x with
      | .disabled => "DISABLED" | .powering => "POWERING" | .joining => "JOINING" | .active => "ACTIVE"
      | .mismatch => "MISMATCH" | .off _ _ => "OFF" | .cooldown => "COOLDOWN" | .latched => "LATCHED"
    let reason (x : OffReason) : String :=
      match x with
      | .silent => "SILENT" | .noJoin => "NO_JOIN" | .overtemp => "OVERTEMP" | .internal => "INTERNAL"
      | .commanded => "COMMANDED" | .feedStuck => "FEED_STUCK"
    kitLines s =
      line [ascii mode, decimal s.ring.tf, decimal s.ring.tr] ::
      line [decimal s.ring.lost, decimal s.ring.switches] ::
      (((indexes 12).filter fun p => (s.pods.table.get p).any fun e => e.enable).map fun p =>
        let r := s.pods.records.get p
        line
          [decimal (p.val + 1), ascii (state r.state), decimal r.retry,
           field 4 (r.lastReason.map fun k => ascii (reason k))]) ++
      [decimal s.notes.markLost]) ∧
  (∀ (x : Survey) (r : SagRecord),
    sagLine x r =
      line
        ([decimal r.number, decimal r.group,
          ascii (match r.kind with | .sag => "SAG" | .interruption => "INTERRUPTION" | .swell => "SWELL"),
          decimal r.start, decimal r.ms, decimal r.residual, siteValue r x, decimal r.worst] ++
         (r.burst.elim [] fun b => [decimal b.1, decimal b.2]) ++
         flags
          [(r.flags.gap, "GAP"), (r.flags.nominal, "NOMINAL"), (r.flags.flywheel, "FLYWHEEL"),
           (r.flags.clipped, "CLIPPED"), (r.flags.cut, "CUT"), (r.flags.postShort, "POST_SHORT"),
           (r.flags.bodyCut, "BODY_CUT"), (r.flags.truncated, "TRUNCATED"), (r.flags.swellAlso, "SWELL_ALSO")]) ∧
    detailLines r =
      line (r.involved.map decimal) :: line (r.extremes.flatMap fun e => [decimal e.1, decimal e.2]) ::
      ((r.maximum.elim [] fun m => [decimal m]) ++
       [r.capture.elim (ascii "NO CAPTURE") fun c =>
          line (c.members.map decimal ++ [decimal c.pre, decimal c.body, decimal c.post])])) ∧
  (∀ r : IntervalRecord,
    let head : List Byte :=
      line
        ([decimal r.number, decimal r.group, decimal r.start, decimal r.stop, decimal r.total, decimal r.used,
          decimal r.flagged, decimal r.invalid, decimal r.frequency] ++
         flags [(r.isEmpty, "EMPTY"), (r.isPartial, "PARTIAL"), (r.lowFund, "LOW_FUND")])
    (r.isEmpty = true → intervalLines r = [head]) ∧
    (r.isEmpty = false → (∀ k ∈ r.sections, k.fundamental ≠ none) →
      intervalLines r =
        head :: r.sections.flatMap fun k =>
          line [decimal k.channel, decimal (k.fundamental.getD 0)] ::
          ((k.orders.map fun o => line [decimal o.order, decimal o.value, field 5 (o.ratio.map decimal)]) ++
           [line (field 5 (k.thd.map decimal) :: k.exceeded.map decimal)]))) ∧
  (∀ (n : Grp) (x : GroupSummary),
    peakLines n x =
      (x.members.zip x.cells).flatMap fun m =>
        line [decimal (n.val + 1), decimal m.1] ::
        ((1 :: x.orders).zip m.2).map fun o =>
          line
            (decimal o.1 :: decimal o.2.peak :: field 7 (o.2.minimum.map decimal) ::
             ((if o.1 = 1 then [] else [field 5 (o.2.ratio.map decimal)]) ++ [decimal o.2.exceedances]))) ∧
  (∀ (k : Nat) (note : Note) (s : State),
    let kind : String :=
      match note.kind with
      | .observation => "OBSERVATION" | .location => "LOCATION" | .customer => "CUSTOMER" | .equipment => "EQUIPMENT"
      | .photoRef => "PHOTO_REF" | .mark => "MARK"
    let retained (n : Nat) : Prop := ∃ e ∈ s.events.sags, e.number = n ∧ e.status ≠ .opened
    let text := s.notes.textOf note
    ∃ sag : List (List Byte),
      (note.sag = none → sag = []) ∧
      (∀ l, note.sag = some l →
        (retained l.sag → sag = [decimal l.sag, ascii "RETAINED"]) ∧
        (¬retained l.sag → sag = [decimal l.sag, ascii "NOT RETAINED"])) ∧
      noteLines k note s =
        line
          ([decimal k, ascii kind, decimal note.refer] ++ (note.predecessor.elim [] fun n => [decimal n]) ++ sag ++
           (note.interval.elim [] fun n => [decimal n]) ++ (note.pod.elim [] fun p => [decimal (p.val + 1)])) ::
        (List.range ((text.length + 47) / 48)).map fun i => (text.drop (48 * i)).take 48)) ∧
  (∀ (j : Job) (s : State),
    let notRetained := linesOf (ascii "NOT RETAINED" ++ 32#8 :: decimal j.notRetained)
    composeSect j s .title = underHeading "TITLE" (titleLines j s.notes.identity) ∧
    composeSect j s .kit = underHeading "KIT" (kitLines s) ∧
    (∀ f, composeSect j s (.sagList f) =
      underHeading "SAG_LIST" ((selectedSags f j s).map fun k => sagLine s.survey k.2) ++ notRetained) ∧
    (∀ f, selectedSags f j s = [] → composeSect j s (.sagDetail f) = underHeading "SAG_DETAIL" [] ++ notRetained) ∧
    (∀ f, selectedSags f j s ≠ [] →
      composeSect j s (.sagDetail f) =
        lineOf "SAG_DETAIL" ::
          ((selectedSags f j s).flatMap fun k =>
            (sagLine s.survey k.2 :: detailLines k.2).flatMap linesOf ++
              (match k.2.capture with
               | none => []
               | some c => strip (k.1.rows.map fun row => row.getD (c.members.idxOf k.2.worst) 0))) ++ notRetained) ∧
    (∀ mask, composeSect j s (.harmonicTable mask) =
      underHeading "HARMONIC_TABLE"
        ((groupsOf mask j).flatMap fun n =>
          (((s.harmonics.intervals.map fun e => e.record).filter fun r =>
            decide (r.group = n.val + 1) && j.intervals.contains r.number).getLast?.elim [] intervalLines))) ∧
    (∀ mask, composeSect j s (.harmonicPeaks mask) =
      underHeading "HARMONIC_PEAKS"
        ((groupsOf mask j).flatMap fun n => peakLines n (s.harmonics.groups.get n).summary)) ∧
    (∀ kinds, composeSect j s (.notes kinds) =
      underHeading "NOTES"
        ((s.notes.notes.zipIdx.filter fun k =>
            decide (k.1.state = .live) && kinds.testBit (codeNoteKind k.1.kind - 1) &&
              decide (j.fromTick ≤ k.1.refer) && decide (k.1.refer ≤ j.toTick)).flatMap
          fun k => noteLines (k.2 + 1) k.1 s)) ∧
    (∀ n, composeSect j s (.signOff n) = List.replicate n (lineOf "")) ∧
    (∀ n, composeSect j s (.feed n) = [.feed n])) ∧
  (∀ (x : Survey) (r : SagRecord),
    (x.channel r.worst = none → siteValue r x = List.replicate 7 45#8) ∧
    ∀ c, x.channel r.worst = some c →
      siteValue r x =
        decimal (r.residual * c.declared / 10000 / 10) ++ 46#8 :: decimal (r.residual * c.declared / 10000 % 10)) ∧
  ∀ series : List Int, series ≠ [] →
    let row (v : Int) : Nat := ((32767 - v) * 64 / 65536).toNat
    (strip series).length = 8 ∧
    ∀ b, b < 8 →
      ∃ rows, (strip series)[b]? = some (.dots rows) ∧ rows.length = 8 ∧
        ∀ i, i < 8 → ∃ dots, rows[i]? = some dots ∧ dots.length = 384 ∧
          ∀ j, j < 384 →
            let first := j * series.length / 384
            let after := if series.length < 384 then first + 1 else (j + 1) * series.length / 384
            let covered (v : Int) : Prop := ∃ k, first ≤ k ∧ k < after ∧ series[k]? = some v
            (dots[j]? = some true ↔
              (∃ u v, covered u ∧ covered v ∧ row u ≤ 8 * b + i ∧ 8 * b + i ≤ row v) ∨ (8 * b + i = 32 ∧ j % 8 = 0)) ∧
            (dots[j]? = some true ∨ dots[j]? = some false)

/-- R155 to R157: SUBMIT-PRINT is checked operands, template, live jobs (of several operands out of range the lowest place is
named, entry 46). An accepted one takes the number after the last job's, 1 following 65535, that no live job holds; selects
and pins the retained sag and interval entries of its groups and range; and counts the sag numbers of the range that no
retained entry holds, from after the highest number before the range to before the lowest after it. It joins the queue at copy
1 (entry 48), starting at once with the opening query when no job is live and waiting QUEUED behind one PRINTING or HELD. -/
def Obligations.SubmitPrintQueues : Prop :=
  ∀ (s u : State) (tag : Byte) (f : SubmitFields), Takes s tag (.submitPrint f) u →
    let answers (r : ResultCode) (data : List Byte) : Prop :=
      exec (.submitPrint tag f) s = .next (replied tag 0x30 r data u)
    let set : Prop := ∃ i x, ofNumber 4 f.template = some i ∧ u.printer.templates.get i = some x
    (∀ k, submitFault f = some k → answers .badValue [BitVec.ofNat 8 k]) ∧
    (submitFault f = none → ¬set → answers .unknownItem []) ∧
    (submitFault f = none → set → 4 ≤ u.printer.jobs.length → answers .noRoom []) ∧
    (submitFault f = none → set → u.printer.jobs.length < 4 →
      ∃ v j, exec (.submitPrint tag f) s =
          .next (replied tag 0x30 .ok
            (u16 j.number ++ [BitVec.ofNat 8 j.sags.length, BitVec.ofNat 8 j.intervals.length] ++ u16 j.notRetained)
            v) ∧
        v.printer.lastJob = j.number ∧ 1 ≤ j.number ∧ j.number ≤ 65535 ∧
        (let next (k : Nat) : Nat := (u.printer.lastJob + k) % 65535 + 1
        ∃ k, j.number = next k ∧ ∀ i, i < k → ∃ x ∈ u.printer.jobs, x.number = next i) ∧
        (∀ k ∈ u.printer.jobs, k.number ≠ j.number) ∧
        j.template = f.template ∧ j.fromTick = f.fromTick ∧ j.toTick = f.toTick ∧ j.mask = f.mask ∧
        j.copies = f.copies ∧ j.copy = 1 ∧ j.cancel = false ∧
        (∀ n, n ∈ j.sags ↔ ∃ e ∈ u.events.sags, ∃ r, e.record? = some r ∧ r.number = n ∧
          f.mask.testBit (r.group - 1) = true ∧ f.fromTick ≤ r.start ∧ r.start ≤ f.toTick) ∧
        (∀ n, n ∈ j.intervals ↔ ∃ e ∈ u.harmonics.intervals, e.record.number = n ∧
          f.mask.testBit (e.record.group - 1) = true ∧ f.fromTick ≤ e.record.stop ∧ e.record.stop ≤ f.toTick) ∧
        (let records := u.events.sags.filterMap SagEntry.record?
        (records.map fun r => r.number).Nodup → ∀ lo hi,
          (lo = 1 ∧ (∀ r ∈ records, f.fromTick ≤ r.start) ∨
            ∃ r ∈ records, r.start < f.fromTick ∧ lo = r.number + 1 ∧
              ∀ q ∈ records, q.start < f.fromTick → q.number ≤ r.number) →
          (hi = u.events.lastSag ∧ (∀ r ∈ records, r.start ≤ f.toTick) ∨
            ∃ r ∈ records, f.toTick < r.start ∧ hi = r.number - 1 ∧
              ∀ q ∈ records, f.toTick < q.start → r.number ≤ q.number) →
          j.notRetained =
            min 65535 ((List.range (hi + 1)).countP fun n =>
              decide (lo ≤ n) && !records.any fun r => decide (r.number = n))) ∧
        v.events =
          { u.events with sags :=
              u.events.sags.map fun e =>
                if e.number ∈ j.sags ∧ e.status ≠ .opened then { e with pins := e.pins + 1 } else e } ∧
        v.harmonics =
          { u.harmonics with intervals :=
              u.harmonics.intervals.map fun e =>
                if e.record.number ∈ j.intervals then { e with pins := e.pins + 1 } else e } ∧
        (u.printer.jobs = [] →
          v.printer.jobs = [j] ∧ j.state = .printing ∧ j.current = .query ∧ j.retries = 0 ∧
          v.printer.exchange = .message 0) ∧
        (∀ k ∈ u.printer.jobs, k.state ≠ .queued →
          v.printer.jobs = u.printer.jobs ++ [j] ∧ j.state = .queued ∧ v.printer.exchange = u.printer.exchange) ∧
        v.printer.templates = u.printer.templates ∧ v.printer.settings = u.printer.settings ∧
        v.printer.status = u.printer.status ∧ v.survey = u.survey ∧ v.ring = u.ring ∧ v.pods = u.pods ∧
        v.trackers = u.trackers ∧ v.notes = u.notes ∧ v.link = u.link)

/-- R170: CANCEL-PRINT refuses number 0, a number that no live job holds, and a job already marked; a job PRINTING or HELD
whose exchange awaits its STATUS is marked and ends with the exchange; any other ends CANCELLED by HOST at once. The reply
gives the number and the state the job was taken in. The line buffer keeps its line (entry 64). -/
def Obligations.CancelPrintCancels : Prop :=
  ∀ (s u : State) (tag : Byte) (n : Nat), Takes s tag (.cancelPrint n) u →
    (n = 0 → exec (.cancelPrint tag n) s = .next (replied tag 0x31 .badValue [] u)) ∧
    (n ≠ 0 → (∀ j ∈ u.printer.jobs, j.number ≠ n) →
      exec (.cancelPrint tag n) s = .next (replied tag 0x31 .unknownItem [] u)) ∧
    ∀ j, n ≠ 0 → u.printer.jobs.find? (fun j => decide (j.number = n)) = some j →
      let state : Byte := match j.state with | .queued => 1 | .printing => 2 | .held _ => 3
      let awaited : Prop :=
        j.state ≠ .queued ∧
        ((∃ e, u.printer.exchange = .message e) ∨ (∃ e, u.printer.exchange = .poll e) ∨
         (∃ e, u.printer.exchange = .heldPoll e) ∨ ∃ e, u.printer.exchange = .cancelFeed e)
      (j.cancel = true → exec (.cancelPrint tag n) s = .next (replied tag 0x31 .badState [] u)) ∧
      (j.cancel = false → awaited →
        exec (.cancelPrint tag n) s =
          .next (replied tag 0x31 .ok (u16 n ++ [state]) (waiting { j with cancel := true } u.printer.exchange u))) ∧
      (j.cancel = false → ¬awaited →
        ∃ v, exec (.cancelPrint tag n) s = .next (replied tag 0x31 .ok (u16 n ++ [state]) v) ∧
          JobEnded u v j .cancelledHost)

/-- R165, R166, R168, R170: a STATUS replaces the last one, makes the printer ANSWERING and moves the hot mark; then it is
judged for the job whose exchange awaits it, in the order fault, paper, hot mark, busy, good. A good one completes the message
(R158): the next of the section in hand is sent, or the next section or copy is composed and begun, or the last copy is DONE;
the good answer to a held poll sends the interrupted message again, or completes the opening query. A late one completes
nothing. A change of paper, fault, hot mark or answering state offers one PRINTER notice with them, before the judging (entry
23). A STATUS names no exchange: one that comes late while another exchange awaits is judged for that one, which is the
model's choice (entry 59). With the cancel mark set, a good STATUS of a PRINTING job is followed by a FEED of 64, and any
other ends the job, as every STATUS ends a HELD one. A section is composed whole when it begins (entry 22). A STATUS that
completes no message leaves the held limit running (entry 54). The line buffer keeps the last TEXT line over any other message
and the end of a job (entry 64). -/
def Obligations.PrinterStatusJudged : Prop :=
  ∀ (s : State) (st : PrinterStatus),
    let hot : Bool :=
      if (s.printer.settings.hotLimit : Int) ≤ st.temp then true
      else if st.temp ≤ (s.printer.settings.resumeLimit : Int) then false else s.printer.hot
    ∃ v t, exec (.printerStatus st) s = .next t ∧
      v = printerTold { s.printer with status := some st, answering := .answering, hot := hot } s ∧
      v.link.replies = s.link.replies ∧ v.link.records = s.link.records ∧
      (s.printer.status.map (fun x => (x.paper, x.fault)) = some (st.paper, st.fault) → s.printer.hot = hot →
        s.printer.answering = .answering → v = { s with printer := v.printer }) ∧
      t.printer.status = some st ∧ t.printer.answering = .answering ∧ t.printer.hot = hot ∧
      ((∀ j ∈ s.printer.jobs, j.state = .queued) → t = v) ∧
      ∀ j x, InHand s j x →
        (match x with
         | .idle | .retryWait _ | .pollGap _ | .heldGap _ | .cooldown _ => t = v
         | .cancelFeed _ => JobEnded v t j .cancelledHost
         | .message _ | .poll _ =>
           (j.cancel = false → st.fault ≠ 0 → JobEnded v t j (.failedFault st.fault)) ∧
           (j.cancel = false → st.fault = 0 → st.paper = false →
             t = waiting { j with state := .held .paper } (.heldGap 0) v) ∧
           (j.cancel = false → st.fault = 0 → st.paper = true → hot = true →
             t = waiting { j with state := .held .hot } (.heldGap 0) v) ∧
           (j.cancel = false → st.fault = 0 → st.paper = true → hot = false → st.ready = false →
             t = { v with printer := { v.printer with exchange := .pollGap 0 } }) ∧
           (j.cancel = false → st.fault = 0 → st.paper = true → hot = false → st.ready = true → MessageDone v t j) ∧
           (j.cancel = true →
             (j.state = .printing → st.ready = true → st.paper = true → st.fault = 0 → hot = false →
               t = waiting { j with current := .feed 64, rest := [] } (.cancelFeed 0) v) ∧
             (j.state ≠ .printing ∨ st.ready = false ∨ st.paper = false ∨ st.fault ≠ 0 ∨ hot = true →
               JobEnded v t j .cancelledHost))
         | .heldPoll _ =>
           (j.cancel = false → st.fault ≠ 0 → JobEnded v t j (.failedFault st.fault)) ∧
           (j.cancel = false → st.fault = 0 → st.paper = false →
             t = waiting { j with state := .held .paper } (.heldGap 0) v) ∧
           (j.cancel = false → st.fault = 0 → st.paper = true → hot = true →
             t = waiting { j with state := .held .hot } (.heldGap 0) v) ∧
           (j.cancel = false → st.fault = 0 → st.paper = true → hot = false → st.ready = false →
             t = { v with printer := { v.printer with exchange := .heldGap 0 } }) ∧
           (j.cancel = false → st.fault = 0 → st.paper = true → hot = false → st.ready = true →
             (j.current ≠ .query → t = sent { j with state := .printing, retries := 0, held := 0 } v) ∧
             (j.current = .query → MessageDone v t j)) ∧
           (j.cancel = true → j.state ≠ .printing → JobEnded v t j .cancelledHost))

/-- R166 to R170: the timers of the print exchange in hand. Without a STATUS for 500 ms the printer is NOT_ANSWERING, with a
PRINTER notice if it was not (entry 23), and the message is sent again after the retry interval, or the job is HELD for the
cooldown, or it is FAILED; a marked job ends CANCELLED; an unanswered held poll is followed by the next one 1 s after its
send. A poll goes 50 ms after a busy STATUS, a held poll 1 s after the last answer, and the message again at the end of a
retry interval or a cooldown. The held limit ends the job, read from the settings as they stand (entry 40). A timer that is
not due changes nothing (entry 1). The line buffer keeps the last TEXT line over any other message and the end of a job (entry
64). -/
def Obligations.PrintTimersRun : Prop :=
  ∀ (s : State) (j : Job) (x : Exchange), InHand s j x →
    let silent (v : State) : Prop :=
      v = printerTold { s.printer with answering := .notAnswering } s ∧
      v.link.replies = s.link.replies ∧
      (s.printer.answering = .notAnswering → v.link = s.link)
    (∀ e, (x = .message e ∨ x = .poll e) → 5120 ≤ e →
      ∃ v t, exec .printReplyTimeout s = .next t ∧ silent v ∧
        (j.cancel = true → JobEnded v t j .cancelledHost) ∧
        (j.cancel = false → j.retries < s.printer.settings.retryLimit →
          t = waiting { j with retries := j.retries + 1 }
            (.retryWait ⟨0, s.printer.settings.retryMs * 1024 / 100⟩) v) ∧
        (j.cancel = false → s.printer.settings.retryLimit ≤ j.retries → 0 < s.printer.settings.cooldown →
          t = waiting { j with state := .held .noReply }
            (.cooldown ⟨0, s.printer.settings.cooldown * 10240⟩) v) ∧
        (j.cancel = false → s.printer.settings.retryLimit ≤ j.retries → s.printer.settings.cooldown = 0 →
          JobEnded v t j .failedNoReply)) ∧
    (∀ e, x = .heldPoll e → 5120 ≤ e →
      (j.cancel = false → exec .printReplyTimeout s =
        .next { s with printer := { s.printer with exchange := .heldGap e } }) ∧
      (j.cancel = true → ∃ t, exec .printReplyTimeout s = .next t ∧ JobEnded s t j .cancelledHost)) ∧
    (∀ e, x = .cancelFeed e → 5120 ≤ e →
      ∃ v t, exec .printReplyTimeout s = .next t ∧ silent v ∧ JobEnded v t j .cancelledHost) ∧
    ((∀ e, x = .message e ∨ x = .poll e ∨ x = .heldPoll e ∨ x = .cancelFeed e → e < 5120) →
      exec .printReplyTimeout s = .next s) ∧
    (∀ t, x = .retryWait t → t.length ≤ t.elapsed → exec .printRetryInterval s = .next (sent j s)) ∧
    ((∀ t, x = .retryWait t → t.elapsed < t.length) → exec .printRetryInterval s = .next s) ∧
    (∀ e, x = .pollGap e → 512 ≤ e →
      exec .printPollDelay s = .next { s with printer := { s.printer with exchange := .poll 0 } }) ∧
    ((∀ e, x = .pollGap e → e < 512) → exec .printPollDelay s = .next s) ∧
    (∀ e, x = .heldGap e → 10240 ≤ e →
      exec .heldPoll s = .next { s with printer := { s.printer with exchange := .heldPoll 0 } }) ∧
    ((∀ e, x = .heldGap e → e < 10240) → exec .heldPoll s = .next s) ∧
    (∀ t, x = .cooldown t → t.length ≤ t.elapsed →
      exec .printCooldownExpiry s = .next (sent { j with state := .printing, retries := 0 } s)) ∧
    ((∀ t, x = .cooldown t → t.elapsed < t.length) → exec .printCooldownExpiry s = .next s) ∧
    (s.printer.settings.heldMinutes * 614400 ≤ j.held →
      ∃ t, exec .heldLimitExpiry s = .next t ∧
        JobEnded s t j
          (if j.cancel then .cancelledHost
           else match j.state with
             | .held .paper => .failedPaper
             | .held .hot => .failedHot
             | .held .noReply => .failedNoReply
             | _ => .failedBusy)) ∧
    (j.held < s.printer.settings.heldMinutes * 614400 → exec .heldLimitExpiry s = .next s)

/-- R155: every step keeps at most 4 live jobs, of different numbers, at most one of them PRINTING or HELD, for every command
and every state in which they are so. -/
def Obligations.JobBoundsKept : Prop :=
  ∀ s t : State, JobBounds s.printer → step s = .next t → JobBounds t.printer

/-- The state after hardware reset meets the invariants that every step keeps. -/
def Obligations.ResetMeetsInvariants : Prop :=
  LinkBounds State.reset.link ∧ PeriodBounds State.reset ∧ JobBounds State.reset.printer ∧ ListBounds State.reset ∧
    PagesAccounted State.reset ∧ HoldersCounted State.reset
end

