-- ==== Sys2Proof/Laws/State.lean ====
section
/-! SUPPORT. What each block update leaves in each field of `State`: one lemma per field and update, true by unfolding, so
that no proof unfolds a record update. -/

namespace Sys2Proof.Machine

/-! ### `mapSurvey` -/

@[simp] theorem State.mapSurvey_pending (f : Survey → Survey) (s : State) : (s.mapSurvey f).pending = s.pending := rfl
@[simp] theorem State.mapSurvey_survey (f : Survey → Survey) (s : State) : (s.mapSurvey f).survey = f s.survey := rfl
@[simp] theorem State.mapSurvey_ring (f : Survey → Survey) (s : State) : (s.mapSurvey f).ring = s.ring := rfl
@[simp] theorem State.mapSurvey_pods (f : Survey → Survey) (s : State) : (s.mapSurvey f).pods = s.pods := rfl
@[simp] theorem State.mapSurvey_trackers (f : Survey → Survey) (s : State) : (s.mapSurvey f).trackers = s.trackers := rfl
@[simp] theorem State.mapSurvey_events (f : Survey → Survey) (s : State) : (s.mapSurvey f).events = s.events := rfl
@[simp] theorem State.mapSurvey_harmonics (f : Survey → Survey) (s : State) : (s.mapSurvey f).harmonics = s.harmonics := rfl
@[simp] theorem State.mapSurvey_notes (f : Survey → Survey) (s : State) : (s.mapSurvey f).notes = s.notes := rfl
@[simp] theorem State.mapSurvey_printer (f : Survey → Survey) (s : State) : (s.mapSurvey f).printer = s.printer := rfl
@[simp] theorem State.mapSurvey_link (f : Survey → Survey) (s : State) : (s.mapSurvey f).link = s.link := rfl

@[simp] theorem State.mapSurvey_mapSurvey (f g : Survey → Survey) (s : State) : (s.mapSurvey f).mapSurvey g = s.mapSurvey (g ∘ f) := rfl

/-! ### `mapRing` -/

@[simp] theorem State.mapRing_pending (f : Ring → Ring) (s : State) : (s.mapRing f).pending = s.pending := rfl
@[simp] theorem State.mapRing_survey (f : Ring → Ring) (s : State) : (s.mapRing f).survey = s.survey := rfl
@[simp] theorem State.mapRing_ring (f : Ring → Ring) (s : State) : (s.mapRing f).ring = f s.ring := rfl
@[simp] theorem State.mapRing_pods (f : Ring → Ring) (s : State) : (s.mapRing f).pods = s.pods := rfl
@[simp] theorem State.mapRing_trackers (f : Ring → Ring) (s : State) : (s.mapRing f).trackers = s.trackers := rfl
@[simp] theorem State.mapRing_events (f : Ring → Ring) (s : State) : (s.mapRing f).events = s.events := rfl
@[simp] theorem State.mapRing_harmonics (f : Ring → Ring) (s : State) : (s.mapRing f).harmonics = s.harmonics := rfl
@[simp] theorem State.mapRing_notes (f : Ring → Ring) (s : State) : (s.mapRing f).notes = s.notes := rfl
@[simp] theorem State.mapRing_printer (f : Ring → Ring) (s : State) : (s.mapRing f).printer = s.printer := rfl
@[simp] theorem State.mapRing_link (f : Ring → Ring) (s : State) : (s.mapRing f).link = s.link := rfl

@[simp] theorem State.mapRing_mapRing (f g : Ring → Ring) (s : State) : (s.mapRing f).mapRing g = s.mapRing (g ∘ f) := rfl

/-! ### `mapPods` -/

@[simp] theorem State.mapPods_pending (f : Pods → Pods) (s : State) : (s.mapPods f).pending = s.pending := rfl
@[simp] theorem State.mapPods_survey (f : Pods → Pods) (s : State) : (s.mapPods f).survey = s.survey := rfl
@[simp] theorem State.mapPods_ring (f : Pods → Pods) (s : State) : (s.mapPods f).ring = s.ring := rfl
@[simp] theorem State.mapPods_pods (f : Pods → Pods) (s : State) : (s.mapPods f).pods = f s.pods := rfl
@[simp] theorem State.mapPods_trackers (f : Pods → Pods) (s : State) : (s.mapPods f).trackers = s.trackers := rfl
@[simp] theorem State.mapPods_events (f : Pods → Pods) (s : State) : (s.mapPods f).events = s.events := rfl
@[simp] theorem State.mapPods_harmonics (f : Pods → Pods) (s : State) : (s.mapPods f).harmonics = s.harmonics := rfl
@[simp] theorem State.mapPods_notes (f : Pods → Pods) (s : State) : (s.mapPods f).notes = s.notes := rfl
@[simp] theorem State.mapPods_printer (f : Pods → Pods) (s : State) : (s.mapPods f).printer = s.printer := rfl
@[simp] theorem State.mapPods_link (f : Pods → Pods) (s : State) : (s.mapPods f).link = s.link := rfl

@[simp] theorem State.mapPods_mapPods (f g : Pods → Pods) (s : State) : (s.mapPods f).mapPods g = s.mapPods (g ∘ f) := rfl

/-! ### `mapTrackers` -/

@[simp] theorem State.mapTrackers_pending (f : Table Tracker 8 → Table Tracker 8) (s : State) : (s.mapTrackers f).pending = s.pending := rfl
@[simp] theorem State.mapTrackers_survey (f : Table Tracker 8 → Table Tracker 8) (s : State) : (s.mapTrackers f).survey = s.survey := rfl
@[simp] theorem State.mapTrackers_ring (f : Table Tracker 8 → Table Tracker 8) (s : State) : (s.mapTrackers f).ring = s.ring := rfl
@[simp] theorem State.mapTrackers_pods (f : Table Tracker 8 → Table Tracker 8) (s : State) : (s.mapTrackers f).pods = s.pods := rfl
@[simp] theorem State.mapTrackers_trackers (f : Table Tracker 8 → Table Tracker 8) (s : State) : (s.mapTrackers f).trackers = f s.trackers := rfl
@[simp] theorem State.mapTrackers_events (f : Table Tracker 8 → Table Tracker 8) (s : State) : (s.mapTrackers f).events = s.events := rfl
@[simp] theorem State.mapTrackers_harmonics (f : Table Tracker 8 → Table Tracker 8) (s : State) : (s.mapTrackers f).harmonics = s.harmonics := rfl
@[simp] theorem State.mapTrackers_notes (f : Table Tracker 8 → Table Tracker 8) (s : State) : (s.mapTrackers f).notes = s.notes := rfl
@[simp] theorem State.mapTrackers_printer (f : Table Tracker 8 → Table Tracker 8) (s : State) : (s.mapTrackers f).printer = s.printer := rfl
@[simp] theorem State.mapTrackers_link (f : Table Tracker 8 → Table Tracker 8) (s : State) : (s.mapTrackers f).link = s.link := rfl

@[simp] theorem State.mapTrackers_mapTrackers (f g : Table Tracker 8 → Table Tracker 8) (s : State) : (s.mapTrackers f).mapTrackers g = s.mapTrackers (g ∘ f) := rfl

/-! ### `mapEvents` -/

@[simp] theorem State.mapEvents_pending (f : Events → Events) (s : State) : (s.mapEvents f).pending = s.pending := rfl
@[simp] theorem State.mapEvents_survey (f : Events → Events) (s : State) : (s.mapEvents f).survey = s.survey := rfl
@[simp] theorem State.mapEvents_ring (f : Events → Events) (s : State) : (s.mapEvents f).ring = s.ring := rfl
@[simp] theorem State.mapEvents_pods (f : Events → Events) (s : State) : (s.mapEvents f).pods = s.pods := rfl
@[simp] theorem State.mapEvents_trackers (f : Events → Events) (s : State) : (s.mapEvents f).trackers = s.trackers := rfl
@[simp] theorem State.mapEvents_events (f : Events → Events) (s : State) : (s.mapEvents f).events = f s.events := rfl
@[simp] theorem State.mapEvents_harmonics (f : Events → Events) (s : State) : (s.mapEvents f).harmonics = s.harmonics := rfl
@[simp] theorem State.mapEvents_notes (f : Events → Events) (s : State) : (s.mapEvents f).notes = s.notes := rfl
@[simp] theorem State.mapEvents_printer (f : Events → Events) (s : State) : (s.mapEvents f).printer = s.printer := rfl
@[simp] theorem State.mapEvents_link (f : Events → Events) (s : State) : (s.mapEvents f).link = s.link := rfl

@[simp] theorem State.mapEvents_mapEvents (f g : Events → Events) (s : State) : (s.mapEvents f).mapEvents g = s.mapEvents (g ∘ f) := rfl

/-! ### `mapHarmonics` -/

@[simp] theorem State.mapHarmonics_pending (f : Harmonics → Harmonics) (s : State) : (s.mapHarmonics f).pending = s.pending := rfl
@[simp] theorem State.mapHarmonics_survey (f : Harmonics → Harmonics) (s : State) : (s.mapHarmonics f).survey = s.survey := rfl
@[simp] theorem State.mapHarmonics_ring (f : Harmonics → Harmonics) (s : State) : (s.mapHarmonics f).ring = s.ring := rfl
@[simp] theorem State.mapHarmonics_pods (f : Harmonics → Harmonics) (s : State) : (s.mapHarmonics f).pods = s.pods := rfl
@[simp] theorem State.mapHarmonics_trackers (f : Harmonics → Harmonics) (s : State) : (s.mapHarmonics f).trackers = s.trackers := rfl
@[simp] theorem State.mapHarmonics_events (f : Harmonics → Harmonics) (s : State) : (s.mapHarmonics f).events = s.events := rfl
@[simp] theorem State.mapHarmonics_harmonics (f : Harmonics → Harmonics) (s : State) : (s.mapHarmonics f).harmonics = f s.harmonics := rfl
@[simp] theorem State.mapHarmonics_notes (f : Harmonics → Harmonics) (s : State) : (s.mapHarmonics f).notes = s.notes := rfl
@[simp] theorem State.mapHarmonics_printer (f : Harmonics → Harmonics) (s : State) : (s.mapHarmonics f).printer = s.printer := rfl
@[simp] theorem State.mapHarmonics_link (f : Harmonics → Harmonics) (s : State) : (s.mapHarmonics f).link = s.link := rfl

@[simp] theorem State.mapHarmonics_mapHarmonics (f g : Harmonics → Harmonics) (s : State) : (s.mapHarmonics f).mapHarmonics g = s.mapHarmonics (g ∘ f) := rfl

/-! ### `mapNotes` -/

@[simp] theorem State.mapNotes_pending (f : Notes → Notes) (s : State) : (s.mapNotes f).pending = s.pending := rfl
@[simp] theorem State.mapNotes_survey (f : Notes → Notes) (s : State) : (s.mapNotes f).survey = s.survey := rfl
@[simp] theorem State.mapNotes_ring (f : Notes → Notes) (s : State) : (s.mapNotes f).ring = s.ring := rfl
@[simp] theorem State.mapNotes_pods (f : Notes → Notes) (s : State) : (s.mapNotes f).pods = s.pods := rfl
@[simp] theorem State.mapNotes_trackers (f : Notes → Notes) (s : State) : (s.mapNotes f).trackers = s.trackers := rfl
@[simp] theorem State.mapNotes_events (f : Notes → Notes) (s : State) : (s.mapNotes f).events = s.events := rfl
@[simp] theorem State.mapNotes_harmonics (f : Notes → Notes) (s : State) : (s.mapNotes f).harmonics = s.harmonics := rfl
@[simp] theorem State.mapNotes_notes (f : Notes → Notes) (s : State) : (s.mapNotes f).notes = f s.notes := rfl
@[simp] theorem State.mapNotes_printer (f : Notes → Notes) (s : State) : (s.mapNotes f).printer = s.printer := rfl
@[simp] theorem State.mapNotes_link (f : Notes → Notes) (s : State) : (s.mapNotes f).link = s.link := rfl

@[simp] theorem State.mapNotes_mapNotes (f g : Notes → Notes) (s : State) : (s.mapNotes f).mapNotes g = s.mapNotes (g ∘ f) := rfl

/-! ### `mapPrinter` -/

@[simp] theorem State.mapPrinter_pending (f : Printer → Printer) (s : State) : (s.mapPrinter f).pending = s.pending := rfl
@[simp] theorem State.mapPrinter_survey (f : Printer → Printer) (s : State) : (s.mapPrinter f).survey = s.survey := rfl
@[simp] theorem State.mapPrinter_ring (f : Printer → Printer) (s : State) : (s.mapPrinter f).ring = s.ring := rfl
@[simp] theorem State.mapPrinter_pods (f : Printer → Printer) (s : State) : (s.mapPrinter f).pods = s.pods := rfl
@[simp] theorem State.mapPrinter_trackers (f : Printer → Printer) (s : State) : (s.mapPrinter f).trackers = s.trackers := rfl
@[simp] theorem State.mapPrinter_events (f : Printer → Printer) (s : State) : (s.mapPrinter f).events = s.events := rfl
@[simp] theorem State.mapPrinter_harmonics (f : Printer → Printer) (s : State) : (s.mapPrinter f).harmonics = s.harmonics := rfl
@[simp] theorem State.mapPrinter_notes (f : Printer → Printer) (s : State) : (s.mapPrinter f).notes = s.notes := rfl
@[simp] theorem State.mapPrinter_printer (f : Printer → Printer) (s : State) : (s.mapPrinter f).printer = f s.printer := rfl
@[simp] theorem State.mapPrinter_link (f : Printer → Printer) (s : State) : (s.mapPrinter f).link = s.link := rfl

@[simp] theorem State.mapPrinter_mapPrinter (f g : Printer → Printer) (s : State) : (s.mapPrinter f).mapPrinter g = s.mapPrinter (g ∘ f) := rfl

/-! ### `mapLink` -/

@[simp] theorem State.mapLink_pending (f : Link → Link) (s : State) : (s.mapLink f).pending = s.pending := rfl
@[simp] theorem State.mapLink_survey (f : Link → Link) (s : State) : (s.mapLink f).survey = s.survey := rfl
@[simp] theorem State.mapLink_ring (f : Link → Link) (s : State) : (s.mapLink f).ring = s.ring := rfl
@[simp] theorem State.mapLink_pods (f : Link → Link) (s : State) : (s.mapLink f).pods = s.pods := rfl
@[simp] theorem State.mapLink_trackers (f : Link → Link) (s : State) : (s.mapLink f).trackers = s.trackers := rfl
@[simp] theorem State.mapLink_events (f : Link → Link) (s : State) : (s.mapLink f).events = s.events := rfl
@[simp] theorem State.mapLink_harmonics (f : Link → Link) (s : State) : (s.mapLink f).harmonics = s.harmonics := rfl
@[simp] theorem State.mapLink_notes (f : Link → Link) (s : State) : (s.mapLink f).notes = s.notes := rfl
@[simp] theorem State.mapLink_printer (f : Link → Link) (s : State) : (s.mapLink f).printer = s.printer := rfl
@[simp] theorem State.mapLink_link (f : Link → Link) (s : State) : (s.mapLink f).link = f s.link := rfl

@[simp] theorem State.mapLink_mapLink (f g : Link → Link) (s : State) : (s.mapLink f).mapLink g = s.mapLink (g ∘ f) := rfl

end Sys2Proof.Machine
end

