-- ==== Sys2Proof/Laws/Table.lean ====
section
/-! SUPPORT. Reading a table after each way of making or changing one. -/

namespace Sys2Proof

variable {α β : Type} {n : Nat}

@[simp] theorem Table.get_set_self (t : Table α n) (i : Fin n) (x : α) : (t.set i x).get i = x := by
  simp [Table.get, Table.set, Fin.cast]

theorem Table.get_set_of_ne (t : Table α n) {i j : Fin n} (x : α) (h : i ≠ j) : (t.set i x).get j = t.get j := by
  have : i.val ≠ j.val := fun k => h (Fin.ext k)
  simp [Table.get, Table.set, Fin.cast, this]

theorem Table.get_set (t : Table α n) (i j : Fin n) (x : α) :
    (t.set i x).get j = if i = j then x else t.get j := by
  by_cases h : i = j
  · subst h; simp
  · simp [h, Table.get_set_of_ne]

@[simp] theorem Table.get_map (f : α → β) (t : Table α n) (i : Fin n) : (t.map f).get i = f (t.get i) := by
  simp [Table.get, Table.map, Fin.cast]

@[simp] theorem Table.get_replicate (x : α) (i : Fin n) : (Table.replicate n x).get i = x := by
  simp [Table.get, Table.replicate]

@[simp] theorem Table.get_tabulate (f : Fin n → α) (i : Fin n) : (Table.tabulate n f).get i = f i := by
  simp [Table.get, Table.tabulate, indexes, Fin.cast]

theorem Table.ext_get {s t : Table α n} (h : ∀ i, s.get i = t.get i) : s = t := by
  cases s with
  | mk a ha =>
    cases t with
    | mk b hb =>
      have : a = b := by
        apply List.ext_getElem (by omega)
        intro k h1 h2
        have := h ⟨k, by omega⟩
        simpa [Table.get, Fin.cast] using this
      subst this; rfl

@[simp] theorem Table.set_get_self (t : Table α n) (i : Fin n) : t.set i (t.get i) = t := by
  apply Table.ext_get; intro j; rw [Table.get_set]; split <;> simp_all

theorem Table.modify_eq (t : Table α n) (i : Fin n) (f : α → α) : t.modify i f = t.set i (f (t.get i)) := rfl

@[simp] theorem Table.get_modify_self (t : Table α n) (i : Fin n) (f : α → α) :
    (t.modify i f).get i = f (t.get i) := by simp [Table.modify]

theorem Table.get_modify_of_ne (t : Table α n) {i j : Fin n} (f : α → α) (h : i ≠ j) :
    (t.modify i f).get j = t.get j := by simp [Table.modify, Table.get_set_of_ne, h]

@[simp] theorem Table.set_set (t : Table α n) (i : Fin n) (x y : α) : (t.set i x).set i y = t.set i y := by
  simp [Table.set]

theorem mem_indexes (i : Fin n) : i ∈ indexes n := by simp [indexes]

/-- An index read from its number, and the number of an index read. -/
@[simp] theorem ofNumber_ordinal (i : Fin n) : ofNumber n (ordinal i) = some i := by
  have h := i.isLt
  have k : 1 ≤ ordinal i ∧ ordinal i ≤ n := by unfold ordinal; omega
  unfold ofNumber
  rw [dif_pos k]
  rfl

theorem ofNumber_eq_some {k : Nat} {i : Fin n} : ofNumber n k = some i ↔ k = ordinal i := by
  constructor
  · intro h
    unfold ofNumber at h
    split at h
    · cases h
      rename_i hk
      show k = k - 1 + 1
      omega
    · cases h
  · rintro rfl; simp

theorem ofNumber_eq_none {k : Nat} : ofNumber n k = none ↔ k = 0 ∨ n < k := by
  unfold ofNumber
  split <;> simp <;> omega

end Sys2Proof
end

