-- ==== Sys2Proof/Laws/Ops.lean ====
section
/-! SUPPORT. What each shared operation can do, said once: the taking and answering of a directive, the offers, the pod
moves and the request slot. -/

namespace Sys2Proof.Machine

/-! ## Directives -/

theorem State.fill_eq_replied (tag code : Byte) (r : ResultCode) (data : List Byte) (s : State) :
    s.fill tag code r data = replied tag code r data s := rfl

/-- A directive that is taken runs its owner on the state it leaves; the reply fills an entry, or the entry is reserved. -/
theorem handle_of_takes {s u : State} {tag : Byte} {d : Directive} (h : Takes s tag d u) (owner : State → Answer) :
    handle tag d owner s =
      match owner u with
      | (v, some (r, data)) => .next (replied tag (codeDirective d) r data v)
      | (v, none) => .next { v with link := { v.link with reserved := some (tag, codeDirective d) } } := by
  obtain ⟨room, ⟨none, rfl⟩ | ⟨payload, rest, head, reads, rfl⟩⟩ := h
  · have free : u.link.hasFreeReply = true := decide_eq_true room
    simp only [handle, State.take, free, none]
    rfl
  · have free : s.link.hasFreeReply = true := decide_eq_true room
    simp only [handle, State.take, free, head, reads]
    rfl

/-- A directive is not taken while no reply entry is free, or while another directive stands at the head. -/
theorem handle_waits {s : State} {tag : Byte} {d : Directive} (owner : State → Answer)
    (h : s.link.hasFreeReply = false ∨
      ∃ q rest, s.link.directives = q :: rest ∧ ¬(q.tag = tag ∧ parseDirective q.payload = some d)) :
    handle tag d owner s = .next s := by
  obtain full | ⟨q, rest, head, other⟩ := h
  · simp [handle, State.take, full]
  · simp only [handle, State.take, head]
    by_cases free : s.link.hasFreeReply = true
    · simp only [free, if_true]
      rw [if_neg (by simpa using other)]
    · simp [free]

/-- A directive given while the queue is empty and a reply entry is free is taken. -/
theorem takes_at_once {s : State} (tag : Byte) (d : Directive)
    (room : s.link.replies.length + (if s.link.reserved.isSome then 1 else 0) < 8) (none : s.link.directives = []) :
    Takes s tag d s := ⟨room, .inl ⟨none, rfl⟩⟩

/-! ## Offers -/

@[simp] theorem State.offer_pending (b : NoticeBody) (s : State) : (s.offer b).pending = s.pending := rfl
@[simp] theorem State.offer_survey (b : NoticeBody) (s : State) : (s.offer b).survey = s.survey := rfl
@[simp] theorem State.offer_ring (b : NoticeBody) (s : State) : (s.offer b).ring = s.ring := rfl
@[simp] theorem State.offer_pods (b : NoticeBody) (s : State) : (s.offer b).pods = s.pods := rfl
@[simp] theorem State.offer_trackers (b : NoticeBody) (s : State) : (s.offer b).trackers = s.trackers := rfl
@[simp] theorem State.offer_events (b : NoticeBody) (s : State) : (s.offer b).events = s.events := rfl
@[simp] theorem State.offer_harmonics (b : NoticeBody) (s : State) : (s.offer b).harmonics = s.harmonics := rfl
@[simp] theorem State.offer_notes (b : NoticeBody) (s : State) : (s.offer b).notes = s.notes := rfl
@[simp] theorem State.offer_printer (b : NoticeBody) (s : State) : (s.offer b).printer = s.printer := rfl
@[simp] theorem State.offer_link (b : NoticeBody) (s : State) : (s.offer b).link = s.link.offer ⟨s.survey.tick, b⟩ := rfl

/-- R187: an offer touches the notice queue and its two counts alone. -/
theorem Link.offer_eq (n : Notice) (l : Link) :
    l.offer n =
      { l with
        notices := (l.offer n).notices
        lostNotices := (l.offer n).lostNotices
        noticeLosses := (l.offer n).noticeLosses } := by
  unfold Link.offer; split <;> rfl

/-- R187: the notice just offered stands last. -/
theorem Link.offer_last (n : Notice) (l : Link) : (l.offer n).notices.getLast? = some n := by
  unfold Link.offer; split <;> simp

@[simp] theorem Link.offer_replies (n : Notice) (l : Link) : (l.offer n).replies = l.replies := by
  rw [Link.offer_eq]
@[simp] theorem Link.offer_reserved (n : Notice) (l : Link) : (l.offer n).reserved = l.reserved := by
  rw [Link.offer_eq]
@[simp] theorem Link.offer_directives (n : Notice) (l : Link) : (l.offer n).directives = l.directives := by
  rw [Link.offer_eq]
@[simp] theorem Link.offer_records (n : Notice) (l : Link) : (l.offer n).records = l.records := by
  rw [Link.offer_eq]
@[simp] theorem Link.offer_samples (n : Notice) (l : Link) : (l.offer n).samples = l.samples := by
  rw [Link.offer_eq]

/-! ## The snapshot and the pods -/

/-- R62: what latching can do: a latched snapshot stays, an empty one takes the kit report as it stands. -/
theorem State.latch_cases (cause : SnapshotCause) (position : Option Pos) (s : State) :
    (∃ x, s.pods.snapshot = some x ∧ s.latch cause position = s) ∨
    (s.pods.snapshot = none ∧
      s.latch cause position =
        { s with pods := { s.pods with snapshot := some ⟨s.kit, cause, position, s.survey.tick⟩ } }) := by
  unfold State.latch
  cases h : s.pods.snapshot with
  | none => exact .inr ⟨rfl, rfl⟩
  | some x => exact .inl ⟨x, rfl, rfl⟩

theorem State.mapPod_eq (p : Pos) (f : PodRecord → PodRecord) (s : State) :
    s.mapPod p f = withRecord p (f (s.pods.records.get p)) s := rfl

/-- R61: a move sets the state of one record and offers one POD notice. -/
theorem State.movePod_eq (p : Pos) (next : PodState) (cause : PodCause) (s : State) :
    s.movePod p next cause =
      podNoticed p (s.pods.records.get p).state cause
        (withRecord p { s.pods.records.get p with state := next } s) := rfl

/-- R49: the pending joins of the position leave, and a join of it leaves the slot; nothing else changes. -/
theorem State.withdrawJoins_eq (p : Pos) (s : State) :
    s.withdrawJoins p =
      { s with
        pods := { s.pods with joins := s.pods.joins.filter fun j => decide (j.position ≠ p) }
        ring := { s.ring with request := if s.ring.request.any (isJoinOf p) then none else s.ring.request } } := by
  unfold State.withdrawJoins State.mapRing State.mapPods
  simp only
  split <;> rfl

/-- R39: without a waiting join, or while the slot is occupied, nothing is placed. -/
theorem State.placeJoin_of_joins_nil {s : State} (h : s.pods.joins = []) : s.placeJoin = s := by
  unfold State.placeJoin
  cases s.ring.request <;> simp [h]

theorem State.placeJoin_of_request {s : State} {t : Transaction} (h : s.ring.request = some t) : s.placeJoin = s := by
  unfold State.placeJoin
  simp [h]

/-- R39: a placement touches the slot, the transaction number and the join queue alone. -/
theorem State.placeJoin_eq (s : State) :
    s.placeJoin =
      { s with
        pods := { s.pods with joins := s.placeJoin.pods.joins }
        ring :=
          { s.ring with request := s.placeJoin.ring.request, lastTransaction := s.placeJoin.ring.lastTransaction } } := by
  unfold State.placeJoin
  split <;> rfl

/-- R39: a placement is the filling of a free slot. -/
theorem State.placeJoin_eq_joinFilled (s : State) : s.placeJoin = joinFilled s := by
  unfold State.placeJoin joinFilled joinPlaced
  cases s.ring.request <;> cases s.pods.joins <;>
    simp only [reduceCtorEq, if_false, if_true, State.mapPods, State.mapRing, Ring.place, joinTransaction]
  split <;> simp_all [ordinal]

/-- R49: a withdrawal takes the position's join out of the slot. -/
theorem request_withdrawn (p : Pos) (x : Option Transaction) :
    (x.filter fun t => decide (t.client ≠ .join) || decide (t.target ≠ p)) =
      if x.any (isJoinOf p) then none else x := by
  cases x with
  | none => rfl
  | some t =>
    by_cases a : t.client = .join <;> by_cases b : t.target = p <;> simp [Option.filter, isJoinOf, a, b]

/-- R61: the summary flags follow from the states and fault words of the records and the two sets of the ring. -/
theorem summaryFlags_congr {x y : Pods} {r q : Ring}
    (h : ∀ p, (x.records.get p).state = (y.records.get p).state ∧ (x.records.get p).fault = (y.records.get p).fault)
    (unreachable : r.unreachable = q.unreachable) (loopForward : r.loopForward = q.loopForward)
    (loopReverse : r.loopReverse = q.loopReverse) : summaryFlags x r = summaryFlags y q := by
  have same (f : PodRecord → Bool) (hf : ∀ u v : PodRecord, u.state = v.state → u.fault = v.fault → f u = f v) :
      x.records.map f = y.records.map f :=
    Table.ext_get fun i => by simpa using hf _ _ (h i).1 (h i).2
  unfold summaryFlags podSets
  rw [same _ fun u v e _ => by rw [e], same _ fun u v e _ => by rw [e], same _ fun u v e _ => by rw [e],
    same _ fun u v e _ => by rw [e], same (fun r => decide (r.fault ≠ 0#16)) fun u v _ e => by rw [e], unreachable,
    loopForward, loopReverse]

/-! ## Pods switched and joined again -/

/-- R39, R61: placing a join and offering a notice of a record commute. -/
theorem podNoticed_joinFilled (p : Pos) (old : PodState) (cause : PodCause) (s : State) :
    joinFilled (podNoticed p old cause s) = podNoticed p old cause (joinFilled s) := by
  unfold joinFilled podNoticed
  rw [State.offer_ring]
  split
  · unfold joinPlaced
    rw [State.offer_pods]
    cases s.pods.joins <;> rfl
  · rfl

/-- R39: placing a join and replacing a record commute. -/
theorem withRecord_joinFilled (p : Pos) (r : PodRecord) (s : State) :
    joinFilled (withRecord p r s) = withRecord p r (joinFilled s) := by
  unfold joinFilled joinPlaced withRecord
  dsimp only
  split
  · cases h : s.pods.joins <;> simp [h]
  · rfl

/-- R56: a pod switched off and on under COMMANDED, and the slot that its withdrawn join leaves filled. -/
theorem State.cyclePod_placed (p : Pos) (s : State) :
    (s.cyclePod p).placeJoin =
      podNoticed p (s.pods.records.get p).state .commanded
        (withRecord p
          { s.pods.records.get p with
            state := .off .offTime .commanded, silence := 0, fault := 0#16
            reasons := (s.pods.records.get p).reasons ||| 0x10#8, lastReason := some .commanded, mark := false
            timer := some ⟨0, ((s.pods.table.get p).elim 0 fun e => e.offTime) * 1024 / 100⟩, quiet := none }
          (joinsAnew p [] s)) := by
  have len : (s.pods.entry p).offTime = (s.pods.table.get p).elim 0 fun e => e.offTime := by
    unfold Pods.entry; cases s.pods.table.get p <;> rfl
  rw [State.placeJoin_eq_joinFilled, joinsAnew, ← withRecord_joinFilled, ← podNoticed_joinFilled, request_withdrawn]
  unfold State.cyclePod
  simp only [State.movePod_eq, State.mapPod_eq, State.withdrawJoins_eq]
  simp only [withRecord, Table.get_set_self, Table.set_set, List.foldl_nil, ← len]
  rfl

/-- R50: a re-join of a pod that is not JOINING, and the slot filled. -/
theorem State.rejoin_placed (p : Pos) (cause : PodCause) (s : State) (h : (s.pods.records.get p).state ≠ .joining) :
    (s.rejoin p cause).placeJoin =
      podNoticed p (s.pods.records.get p).state cause
        (withRecord p
          { s.pods.records.get p with
            state := .joining, silence := 0, quiet := none, readings := Table.replicate 5 none }
          (joinsAnew p [0, 1, 2, 3, 4] s)) := by
  rw [State.placeJoin_eq_joinFilled, joinsAnew, ← withRecord_joinFilled, ← podNoticed_joinFilled, request_withdrawn]
  refine congrArg joinFilled ?_
  unfold State.rejoin
  simp only [State.movePod_eq, State.mapPod_eq, State.withdrawJoins_eq, State.pod, State.startJoin]
  simp only [withRecord, Table.get_set_self, h, if_false]
  unfold podNoticed State.mapPods
  simp only [State.offer_pods, State.offer_ring, Table.get_set_self, Table.set_set]
  unfold State.offer State.mapLink
  dsimp only
  refine congrArg (fun flags => ({ s with
    ring := _
    pods := _
    link := Link.offer ⟨s.survey.tick, .pod p _ _ _ _ flags⟩ s.link } : State)) (summaryFlags_congr (fun q => ?_) rfl rfl rfl)
  by_cases hq : p = q
  · subst hq; simp
  · simp [Table.get_set_of_ne _ _ hq]

end Sys2Proof.Machine
end

