-- ==== Sys2Proof/Laws/Boundaries.lean ====
section
/-! SUPPORT. What placing a boundary leaves alone, and what taking a capture page does. -/

namespace Sys2Proof.Machine

/-! ## Boundaries -/

/-- What a step of the analysis chain leaves alone: everything but trackers, events, harmonics, and on the link the notices with
their counts and the records. -/
structure SameButAnalysis (s t : State) : Prop where
  pending : t.pending = s.pending
  survey : t.survey = s.survey
  ring : t.ring = s.ring
  pods : t.pods = s.pods
  notes : t.notes = s.notes
  printer : t.printer = s.printer
  link :
    t.link =
      { s.link with
        notices := t.link.notices, lostNotices := t.link.lostNotices, noticeLosses := t.link.noticeLosses
        records := t.link.records }

theorem SameButAnalysis.refl (s : State) : SameButAnalysis s s := by constructor <;> rfl

theorem SameButAnalysis.trans {s t u : State} (h : SameButAnalysis s t) (k : SameButAnalysis t u) : SameButAnalysis s u where
  pending := k.pending.trans h.pending
  survey := k.survey.trans h.survey
  ring := k.ring.trans h.ring
  pods := k.pods.trans h.pods
  notes := k.notes.trans h.notes
  printer := k.printer.trans h.printer
  link := by rw [k.link, h.link]

theorem State.offer_same (b : NoticeBody) (s : State) : SameButAnalysis s (s.offer b) where
  pending := rfl
  survey := rfl
  ring := rfl
  pods := rfl
  notes := rfl
  printer := rfl
  link := by rw [State.offer_link, Link.offer_eq]

theorem State.eventBoundary_same (n : Grp) (g : GroupFields) (b : Boundary) (s : State) :
    SameButAnalysis s (s.eventBoundary n g b) := by
  unfold State.eventBoundary
  split <;> constructor <;> rfl

theorem State.issueInterval_same (r : IntervalRecord) (s : State) : SameButAnalysis s (s.issueInterval r) := by
  unfold State.issueInterval
  split
  · dsimp only
    split
    · constructor <;> rfl
    · unfold State.emitDirect
      dsimp only
      split <;> constructor <;> rfl
  · constructor <;> rfl

theorem State.settleCycle_same (n : Grp) (g : GroupFields) (bins : BinFields) (period : Nat) (s : State) :
    SameButAnalysis s (s.settleCycle n g bins period) := by
  unfold State.settleCycle
  split
  · exact .refl s
  · dsimp only
    split
    · exact SameButAnalysis.trans (by constructor <;> rfl) (State.issueInterval_same _ _)
    · constructor <;> rfl

theorem State.harmonicBoundary_same (n : Grp) (g : GroupFields) (b : Boundary) (s : State) :
    SameButAnalysis s (s.harmonicBoundary n g b) := by
  unfold State.harmonicBoundary
  split
  · exact .refl s
  · exact (State.settleCycle_same _ _ _ _ _).trans (by constructor <;> rfl)

theorem State.takeDecision_same (n : Grp) (g : GroupFields) (d : Decision) (s : State) :
    SameButAnalysis s (s.takeDecision n g d) := by
  have offers : ∀ (l : List NoticeBody) (s : State), SameButAnalysis s (l.foldl (fun s b => s.offer b) s) := by
    intro l
    induction l with
    | nil => exact .refl
    | cons b l ih => exact fun s => (State.offer_same b s).trans (ih _)
  unfold State.takeDecision
  have placed := SameButAnalysis.trans (s := s) (t := s.mapTrackers fun x => x.set n d.tracker) (by constructor <;> rfl)
    (offers d.notices _)
  dsimp only
  split
  · exact placed
  · exact (placed.trans (State.eventBoundary_same _ _ _ _)).trans (State.harmonicBoundary_same _ _ _ _)

theorem State.takeSamples_same (n : Grp) (g : GroupFields) (s : State) : SameButAnalysis s (s.takeSamples n g) := by
  have first : SameButAnalysis s (s.eventSample n g) := by
    unfold State.eventSample
    split
    · exact .refl s
    · split <;> constructor <;> rfl
  refine first.trans ?_
  change SameButAnalysis _ ((s.eventSample n g).harmonicSample n g)
  unfold State.harmonicSample
  split
  · exact .refl _
  · split
    · exact .refl _
    · split <;> constructor <;> rfl

/-- A boundary placed changes the analysis, the notices and the records alone. -/
theorem State.placeBoundary_same (kind : DueKind) (n : Grp) (s : State) : SameButAnalysis s (s.placeBoundary kind n) := by
  unfold State.placeBoundary
  split
  · exact .refl s
  · split
    · exact (State.takeDecision_same _ _ _ _).trans (State.takeSamples_same _ _ _)
    · exact .refl s

theorem State.placeBoundaries_same (s : State) : SameButAnalysis s s.placeBoundaries := by
  have all : ∀ (l : List Grp) (s : State), SameButAnalysis s (l.foldl State.flushGroup s) := by
    intro l
    induction l with
    | nil => exact .refl
    | cons n l ih =>
      exact fun s => (((State.placeBoundary_same .timed n s).trans (State.placeBoundary_same .forced n _)).trans
        (State.placeBoundary_same .wheel n _)).trans (ih _)
  exact all _ s

/-- What the statements call the boundaries placed is the operation of CLOSE-SURVEY and RESTART. -/
theorem boundariesPlaced_eq (s : State) : boundariesPlaced s = s.placeBoundaries := rfl

/-! ## Capture pages -/

theorem Events.evict_shorter {x y : Events} (h : x.evict = some y) : y.sags.length < x.sags.length := by
  simp only [Events.evict, Option.map_eq_some_iff] at h
  obtain ⟨e, he, rfl⟩ := h
  exact List.length_filter_lt_length_iff_exists.mpr ⟨e, List.mem_of_find?_eq_some he, by simp⟩

/-- As many evictions as the list is long are enough: more change nothing. -/
theorem Events.takePage_enough : ∀ (f k : Nat) (x : Events), x.sags.length ≤ f → x.sags.length ≤ k →
    Events.takePage f x = Events.takePage k x := by
  have none : ∀ x : Events, x.sags.length ≤ 0 → x.evict = none := fun x h => by
    simp [Events.evict, List.eq_nil_of_length_eq_zero (Nat.le_zero.mp h)]
  intro f
  induction f with
  | zero =>
    intro k x h _
    unfold Events.takePage
    cases x.freePages <;> cases k <;> simp [none x h]
  | succ f ih =>
    intro k x h h'
    cases k with
    | zero =>
      unfold Events.takePage
      cases x.freePages <;> simp [none x h']
    | succ k =>
      unfold Events.takePage
      cases x.freePages with
      | cons _ _ => rfl
      | nil =>
        cases he : x.evict with
        | none => rfl
        | some y =>
          have := Events.evict_shorter he
          exact ih _ _ (by omega) (by omega)

end Sys2Proof.Machine
end

