-- ==== Sys2Proof/Laws/Captures.lean ====
section
/-! SUPPORT. What the page pool and the captures can do to the sag list: they evict candidates, and nothing else. -/

namespace Sys2Proof.Machine

theorem candidate_eq_spare : SagEntry.candidate = spare := by
  funext e
  unfold SagEntry.candidate spare SagStatus.isSent
  cases e.status <;> rfl

/-- R108: how a sag list may shrink: what is left stood there before, and an entry whose number no candidate bears stays. -/
def Shrinks (x y : Events) : Prop :=
  (∀ e ∈ y.sags, e ∈ x.sags) ∧ ∀ e ∈ x.sags, (∀ c ∈ x.sags, spare c = true → c.number ≠ e.number) → e ∈ y.sags

theorem Shrinks.refl (x : Events) : Shrinks x x := ⟨fun _ => id, fun _ h _ => h⟩

theorem Shrinks.trans {x y z : Events} (h : Shrinks x y) (k : Shrinks y z) : Shrinks x z :=
  ⟨fun e he => h.1 e (k.1 e he), fun e he hc => k.2 e (h.2 e he hc) fun c hm => hc c (h.1 c hm)⟩

/-- R108: an eviction takes the entries of one candidate's number. -/
theorem Events.evict_shrinks {x y : Events} (h : x.evict = some y) : Shrinks x y := by
  unfold Events.evict at h
  rw [candidate_eq_spare] at h
  obtain ⟨c, hc, rfl⟩ := Option.map_eq_some_iff.mp h
  refine ⟨fun e he => (List.mem_filter.mp he).1, fun e he other => List.mem_filter.mpr ⟨he, ?_⟩⟩
  simpa using (other c (List.mem_of_find?_eq_some hc) (List.find?_some hc)).symm

/-- R106: taking a page evicts at most. -/
theorem Events.takePage_shrinks (fuel : Nat) (x : Events) : Shrinks x (Events.takePage fuel x).2 := by
  induction fuel generalizing x with
  | zero => unfold Events.takePage; split <;> exact Shrinks.refl _
  | succ fuel ih =>
    unfold Events.takePage
    split
    · exact Shrinks.refl _
    · split
      · rename_i same evicted
        cases same
        exact (Events.evict_shrinks evicted).trans (ih _)
      · exact Shrinks.refl _

theorem writeRow_shrinks (m : Nat) (w : Writing) (x : Events) : Shrinks x (writeRow m (w, x)).2 := by
  have page := Events.takePage_shrinks x.sags.length x
  unfold writeRow
  dsimp only
  split
  · exact Shrinks.refl _
  · split
    · exact Shrinks.refl _
    · generalize x.takePage x.sags.length = taken at page ⊢
      obtain ⟨p | p, y⟩ := taken <;> exact page

/-- R106: rows written into a capture evict at most. -/
theorem Capture.write_shrinks (rows : List (List Int)) (m : Nat) (c : Capture) (x : Events) :
    Shrinks x (c.write rows m x).2.2 := by
  have fold : ∀ (l : List (List Int)) (w : Writing) (x : Events),
      Shrinks x (l.foldl (fun wx _ => writeRow m wx) (w, x)).2 := by
    intro l
    induction l with
    | nil => exact fun _ => Shrinks.refl
    | cons _ _ ih => exact fun w x => (writeRow_shrinks m w x).trans (ih _ _)
  exact fold rows _ x

theorem Event.writePre_shrinks (rows : List (List Int)) (m : Nat) (e : Event) (x : Events) :
    Shrinks x (e.writePre rows m x).2 := Capture.write_shrinks rows m e.capture x

theorem Event.writeBody_shrinks (limit : Nat) (rows : List (List Int)) (m : Nat) (e : Event) (x : Events) :
    Shrinks x (e.writeBody limit rows m x).2 := by
  unfold Event.writeBody
  split
  · split
    · exact Capture.write_shrinks rows m e.capture x
    · split <;> exact Shrinks.refl _
  · exact Shrinks.refl _

theorem Event.writePost_shrinks (rows : List (List Int)) (m : Nat) (e : Event) (x : Events) :
    Shrinks x (e.writePost rows m x).2 := by
  unfold Event.writePost
  split
  · exact Capture.write_shrinks rows m e.capture x
  · exact Shrinks.refl _

end Sys2Proof.Machine
end

