-- ==== Sys2Proof/Laws/Compose.lean ====
section
/-! SUPPORT. What the shared operations of a report's lines do: fields set apart by one space, dashes for an absent field, the
names of the flags that are set, and a text cut at 48 characters. -/

namespace Sys2Proof.Machine

/-- R158: the fields with one space between two. -/
theorem spaced_eq (l : List (List Byte)) : spaced l = [32#8].intercalate l := by
  induction l with
  | nil => rfl
  | cons a t ih =>
    cases t with
    | nil => simp [spaced, List.intercalate]
    | cons b u => simp [spaced, ih, List.intercalate]

theorem fieldOr_eq (n : Nat) (x : Option (List Byte)) : fieldOr n x = x.getD (List.replicate n 45#8) := by
  cases x <;> rfl

theorem namesSet_eq (l : List (Bool × String)) :
    namesSet l = l.filterMap fun k => if k.1 = true then some (ascii k.2) else none := by
  unfold namesSet
  induction l with
  | nil => rfl
  | cons a t ih => by_cases h : a.1 <;> simp_all

/-- R158: a text cut into pieces of 48, the last holding the rest. -/
theorem pieces_eq {α : Type} (l : List α) :
    pieces 48 l = (List.range ((l.length + 47) / 48)).map fun i => (l.drop (48 * i)).take 48 := by
  have cut : ∀ (f : Nat) (l : List α), l.length ≤ f →
      piecesFrom 48 f l = (List.range ((l.length + 47) / 48)).map fun i => (l.drop (48 * i)).take 48 := by
    intro f
    induction f with
    | zero =>
      intro l h
      cases List.length_eq_zero_iff.mp (Nat.le_zero.mp h)
      simp [piecesFrom]
    | succ f ih =>
      intro l h
      cases l with
      | nil => simp [piecesFrom]
      | cons x xs =>
        have shorter : ((x :: xs).drop 48).length ≤ f := by
          rw [List.length_drop]
          omega
        have one : ((x :: xs).length + 47) / 48 = (((x :: xs).drop 48).length + 47) / 48 + 1 := by
          simp only [List.length_drop, List.length_cons]
          omega
        rw [piecesFrom, ih _ shorter, one, List.range_succ_eq_map]
        simp only [List.map_cons, List.map_map, List.drop_drop, Nat.mul_zero, List.drop_zero]
        refine congrArg _ (List.map_congr_left fun i _ => ?_)
        rw [Function.comp_apply, Nat.mul_succ, Nat.add_comm]
  exact cut _ _ (Nat.le_refl _)

end Sys2Proof.Machine
end

