-- ==== Sys2Proof/Laws/Ticks.lean ====
section
/-! SUPPORT. What the statements call the timed steps taken and the analysis of a group, as the operations of TICK_START,
TICK_CLOSE and the boundary steps. -/

namespace Sys2Proof.Machine

/-- The steps that the statements take in a fold are those TICK_START takes. -/
theorem dueTaken_eq (s : State) : dueTaken s = s.flush := by
  simp only [dueTaken, timedCommands, List.foldl_append, List.foldl_flatMap, List.foldl_cons, List.foldl_nil]
  rfl

theorem lag_eq (g : GroupFields) : lag g = g.d - 1 := by unfold lag debounce; split <;> simp_all

theorem decisionTick_eq (g : GroupFields) (t : Nat) : decisionTick g t = t - lag g := by
  unfold decisionTick lag debounce
  split <;> simp_all

/-- Sensing in the statements' words is the sensing of the tracker. -/
theorem sensedAt_eq (g : GroupFields) (t : Nat) (r : Ring) (x : Tracker) :
    sensedAt g t r x =
      ((x.sense (debounce g.d) t (reference r g)).1, (x.sense (debounce g.d) t (reference r g)).2.map Prod.snd) := by
  have hr : reference r g =
      g.refB.elim (r.latchOf g.refA).value fun b =>
        (r.latchOf g.refA).value - ((g.k : Int) * (r.latchOf b).value).tdiv 128 := by
    unfold reference
    cases g.refB <;> rfl
  have hd : debounce g.d = if g.d = 0 then 1 else g.d := rfl
  simp only [sensedAt, ← hr, ← hd]
  generalize reference r g = v, debounce g.d = d
  unfold Tracker.sense
  cases h : x.settled with
  | none => rfl
  | some sign =>
    by_cases hs : signOf v = sign
    · simp [hs, show (if v < 0 then Sign.negative else Sign.nonNegative) = sign from hs]
    · have hn : ¬sign = (if v < 0 then Sign.negative else Sign.nonNegative) := fun e => hs e.symm
      by_cases hd : d ≤ x.run + 1
      · simp only [hs, hn, hd, Nat.not_lt.mpr hd, if_false, if_true, reduceCtorEq, Option.some.injEq, Option.map_some]
        refine Prod.ext rfl (congrArg some ?_)
        unfold signOf
        split <;> rfl
      · simp [hs, hn, hd, Nat.not_le.mp hd]

/-- The samples of tick t − D in the statements' words are those the close takes. -/
theorem samplesTaken_eq (n : Grp) (g : GroupFields) (s : State) : samplesTaken n g s = s.takeSamples n g := by
  have row (l : List (List Sample)) : delayed (lag g) l = rowDue g l := by unfold delayed rowDue; rw [lag_eq]
  have bins : (s.eventSample n g).analysedBins g = s.analysedBins g := by
    unfold State.eventSample; split; rfl; split <;> rfl
  have harmonics : (s.eventSample n g).harmonics = s.harmonics := by
    unfold State.eventSample; split; rfl; split <;> rfl
  have trackers : (s.eventSample n g).trackers = s.trackers := by
    unfold State.eventSample; split; rfl; split <;> rfl
  unfold samplesTaken State.takeSamples State.harmonicSample
  rw [bins, harmonics, trackers]
  unfold State.eventSample
  cases h : (s.trackers.get n).last with
  | none => cases s.analysedBins g <;> rfl
  | some b =>
    simp only [reduceCtorEq, if_false, Option.isNone_some, row, Bool.false_eq_true]
    cases rowDue g (s.events.groups.get n).delay <;> cases s.analysedBins g <;>
      cases rowDue g (s.harmonics.groups.get n).delay <;> rfl

/-- The rows entered in the statements' words are those the close enters. -/
theorem latchesEntered_eq (n : Grp) (g : GroupFields) (s : State) :
    latchesEntered n g s = (s.eventPush n g).harmonicPush n g := by
  have line (row : List Sample) (l : List (List Sample)) : pushDelay (lag g) row l = lineWith g row l := by
    simp [pushDelay, lineWith, takeLast, lag_eq]
  have bins : (s.eventPush n g).analysedBins g = s.analysedBins g := rfl
  unfold latchesEntered State.harmonicPush
  rw [bins]
  cases s.analysedBins g <;>
    simp [line, State.eventPush, State.mapEvents, State.mapHarmonics, Harmonics.mapGroup, Table.modify, State.memberRow]

/-- What a decision does: the tracker, the notices, and the boundary announced. -/
theorem takeDecision_eq (n : Grp) (g : GroupFields) (d : Decision) (s : State) :
    s.takeDecision n g d =
      let v : State :=
        { s with
          trackers := s.trackers.set n d.tracker
          link := d.notices.foldl (fun l b => l.offer ⟨s.survey.tick, b⟩) s.link }
      d.boundary.elim v fun b => announced n g b v := by
  have offers : ∀ (l : List NoticeBody) (v : State),
      l.foldl (fun s b => s.offer b) v =
        { v with link := l.foldl (fun k b => k.offer ⟨v.survey.tick, b⟩) v.link } := by
    intro l
    induction l with
    | nil => intro v; rfl
    | cons b l ih => intro v; rw [List.foldl_cons, ih]; rfl
  unfold State.takeDecision
  simp only [offers]
  cases d.boundary <;> rfl

/-- The analysis of a set group in the statements' words is that of the close. -/
theorem groupAnalysed_eq (s : State) (n : Grp) (g : GroupFields) (h : s.survey.groups.get n = some g)
    (ht : 1 ≤ s.survey.tick) : groupAnalysed s n = s.closeGroup (n, g) := by
  have hc : (g.d ≤ s.survey.tick) ↔ lag g < s.survey.tick := by rw [lag_eq]; omega
  have hm (o : Option DueKind) (a b : State) : (if o = none then a else b) = if o.isSome = true then b else a := by
    cases o <;> rfl
  simp only [groupAnalysed, h, State.closeGroup, takeDecision_eq, samplesTaken_eq, Tracker.close, hc, hm, sensedAt_eq,
    decisionTick_eq, ← latchesEntered_eq]
  rfl

/-- R100: a span closed in the statements' words is the one the machine closes. -/
theorem closeSpan_eq (t : Nat) (x : SpanRecord) : closeSpan t x = spanClosed t x := by
  unfold closeSpan spanClosed
  cases x.start <;> simp [takeLast]

end Sys2Proof.Machine
end

