-- ==== Sys2Proof/Tests/Slice0.lean ====
section
/-! SUPPORT. Tests: the well-formedness checks refuse ill-formed terms, the worked examples of spec/ come out, and every
statement with hypotheses has a state and operands that meet them (`witness_…`). Every expected value is the spec's. -/

namespace Sys2Proof.Tests

-- One test after the other: a test that the kernel evaluates waits for the declarations before it.
set_option Elab.async false

open Sys2Proof.Machine

/-! ## Well-formedness: each check refuses an ill-formed term -/

/-- A text too long for its two-byte length. -/
def longText : List Byte := List.replicate 65536 0

def aChannel : ChannelFields := ⟨1, 4, 14000, 230, 1, 1, 1⟩
def aGroup : GroupFields := ⟨[1, 2, 3], 1, some 1, 50, 1, some 2, 16, 3, 96, 32, 4, 50⟩
def aProfile : ProfileFields := ⟨1000, 1500, 9000, 9200, 10800, 11000, 8, 16, 64, 500, 60⟩
def aBinSet : BinFields := ⟨[3, 5, 7], [200, 300, 400], 10, 6, 500⟩
def aPod : PodFields := ⟨1, 1, some 16, 2, 2000, 30, 0⟩
def aPrinter : PrinterFields := ⟨2, 1000, 30, 70, 60, 10⟩
def aNote : NoteFields := ⟨1, none, none, none, none, []⟩
def noAmend : AmendFields := ⟨none, none, .leftOut, .leftOut, .leftOut, none⟩

theorem test_wellFormed_admits :
    [.loadChannel 0 1 (some aChannel), .loadGroup 0 1 (some aGroup), .loadProfile 0 1 (some aProfile),
      .loadBins 0 1 (some aBinSet), .loadPod 0 1 (some aPod), .loadPrinter 0 aPrinter, .addNote 0 aNote,
      .amendNote 0 1 noAmend].all Instr.wellFormed = true := by decide

theorem test_wellFormed_channel :
    [Instr.loadChannel 0 256 none, .loadChannel 0 1 (some { aChannel with kind := 256 }),
      .loadChannel 0 1 (some { aChannel with range := 256 }), .loadChannel 0 1 (some { aChannel with nom := 65536 }),
      .loadChannel 0 1 (some { aChannel with declared := 65536 }), .loadChannel 0 1 (some { aChannel with raw := 256 }),
      .loadChannel 0 1 (some { aChannel with analyse := 256 }),
      .loadChannel 0 1 (some { aChannel with harmonic := 256 })].any Instr.wellFormed = false := by decide

theorem test_wellFormed_group :
    [Instr.loadGroup 0 256 none, .loadGroup 0 1 (some { aGroup with members := [256] }),
      .loadGroup 0 1 (some { aGroup with members := List.replicate 256 1 }),
      .loadGroup 0 1 (some { aGroup with bins := some 256 }), .loadGroup 0 1 (some { aGroup with refB := some 256 }),
      .loadGroup 0 1 (some { aGroup with profile := 256 }), .loadGroup 0 1 (some { aGroup with nominal := 256 }),
      .loadGroup 0 1 (some { aGroup with refA := 256 }), .loadGroup 0 1 (some { aGroup with k := 256 }),
      .loadGroup 0 1 (some { aGroup with f := 256 }), .loadGroup 0 1 (some { aGroup with m := 256 }),
      .loadGroup 0 1 (some { aGroup with w := 256 }), .loadGroup 0 1 (some { aGroup with d := 256 }),
      .loadGroup 0 1 (some { aGroup with flywheel := 256 })].any Instr.wellFormed = false := by decide +kernel

theorem test_wellFormed_profile :
    [Instr.loadProfile 0 256 none, .loadProfile 0 1 (some { aProfile with intEnter := 65536 }),
      .loadProfile 0 1 (some { aProfile with intExit := 65536 }), .loadProfile 0 1 (some { aProfile with sagEnter := 65536 }),
      .loadProfile 0 1 (some { aProfile with sagExit := 65536 }),
      .loadProfile 0 1 (some { aProfile with swellExit := 65536 }),
      .loadProfile 0 1 (some { aProfile with swellEnter := 65536 }), .loadProfile 0 1 (some { aProfile with pre := 256 }),
      .loadProfile 0 1 (some { aProfile with post := 256 }), .loadProfile 0 1 (some { aProfile with body := 256 }),
      .loadProfile 0 1 (some { aProfile with burstMs := 65536 }),
      .loadProfile 0 1 (some { aProfile with maxSeconds := 65536 })].any Instr.wellFormed = false := by decide

theorem test_wellFormed_bins :
    [Instr.loadBins 0 256 none, .loadBins 0 1 (some { aBinSet with orders := [256] }),
      .loadBins 0 1 (some { aBinSet with limits := [65536] }), .loadBins 0 1 (some { aBinSet with blockLength := 256 }),
      .loadBins 0 1 (some { aBinSet with exponent := 256 }),
      .loadBins 0 1 (some { aBinSet with minFund := 65536 })].any Instr.wellFormed = false := by decide

theorem test_wellFormed_pod :
    [Instr.loadPod 0 256 none, .loadPod 0 1 (some { aPod with enable := 256 }),
      .loadPod 0 1 (some { aPod with typeCode := 256 }), .loadPod 0 1 (some { aPod with silence := some 256 }),
      .loadPod 0 1 (some { aPod with retry := 256 }), .loadPod 0 1 (some { aPod with offTime := 65536 }),
      .loadPod 0 1 (some { aPod with cooldown := 65536 }),
      .loadPod 0 1 (some { aPod with quiet := 256 })].any Instr.wellFormed = false := by decide

theorem test_wellFormed_template :
    [Instr.loadTemplate 0 256 none, .loadTemplate 0 1 (some ⟨256, []⟩), .loadTemplate 0 1 (some ⟨2, [.given 1 []]⟩),
      .loadTemplate 0 1 (some ⟨1, [.given 10 []]⟩), .loadTemplate 0 1 (some ⟨1, [.given 3 [1, 1]]⟩),
      .loadTemplate 0 1 (some ⟨1, [.given 4 [1, 1, 65536]]⟩), .loadTemplate 0 1 (some ⟨1, [.given 9 [256]]⟩),
      .loadTemplate 0 1 (some ⟨2, [.unreadable, .given 1 []]⟩),
      .loadTemplate 0 1 (some ⟨1, [.given 1 [], .unreadable]⟩)].any Instr.wellFormed = false := by decide

theorem test_wellFormed_printer :
    [Instr.loadPrinter 0 { aPrinter with retryLimit := 256 }, .loadPrinter 0 { aPrinter with retryMs := 65536 },
      .loadPrinter 0 { aPrinter with cooldown := 65536 }, .loadPrinter 0 { aPrinter with hotLimit := 256 },
      .loadPrinter 0 { aPrinter with resumeLimit := 256 }, .loadPrinter 0 { aPrinter with heldMinutes := 256 },
      .printerStatus ⟨true, true, -129, 0⟩, .printerStatus ⟨true, true, 128, 0⟩,
      .printerStatus ⟨true, true, 20, 256⟩].any Instr.wellFormed = false := by decide

theorem test_wellFormed_notes :
    [Instr.addNote 0 { aNote with kind := 256 }, .addNote 0 { aNote with refer := some (2 ^ 48) },
      .addNote 0 { aNote with sag := some (2 ^ 32) }, .addNote 0 { aNote with interval := some (2 ^ 32) },
      .addNote 0 { aNote with pod := some 256 }, .amendNote 0 256 noAmend,
      .amendNote 0 1 { noAmend with kind := some 256 }, .amendNote 0 1 { noAmend with refer := some (2 ^ 48) },
      .amendNote 0 1 { noAmend with sag := .given (2 ^ 32) }, .amendNote 0 1 { noAmend with interval := .given (2 ^ 32) },
      .amendNote 0 1 { noAmend with pod := .given 256 }, .withdrawNote 0 256,
      .readNote 0 (.note 256)].any Instr.wellFormed = false := by decide

theorem test_wellFormed_texts :
    [Instr.addNote 0 { aNote with text := longText }, .amendNote 0 1 { noAmend with text := some longText },
      .openSurvey 0 ⟨1, 0, some longText, none⟩, .openSurvey 0 ⟨1, 0, none, some longText⟩,
      .setIdentity 0 ⟨some longText, none, none⟩, .setIdentity 0 ⟨none, some longText, none⟩,
      .setIdentity 0 ⟨none, none, some longText⟩].any Instr.wellFormed = false := by decide +kernel

theorem test_wellFormed_others :
    [Instr.loadLink 0 256, .readTable 0 256 1, .readTable 0 1 256, .openSurvey 0 ⟨65536, 0, none, none⟩,
      .openSurvey 0 ⟨1, 2 ^ 32, none, none⟩, .submitPrint 0 ⟨256, 0, 0, 1, 1⟩, .submitPrint 0 ⟨1, 2 ^ 48, 0, 1, 1⟩,
      .submitPrint 0 ⟨1, 0, 2 ^ 48, 1, 1⟩, .submitPrint 0 ⟨1, 0, 0, 256, 1⟩, .submitPrint 0 ⟨1, 0, 0, 1, 256⟩,
      .cancelPrint 0 65536, .podRead 0 256 0, .podRead 0 1 256, .podWrite 0 256 0 0, .podWrite 0 1 256 0,
      .podWrite 0 1 0 65536, .podCycle 0 256, .podRelease 0 256, .clearPeaks 0 256, .readSag 0 (2 ^ 32),
      .badDirective 0 (List.replicate 513 0)].any Instr.wellFormed = false := by decide +kernel

/-! ## Helpers -/

/-- A directive given while the directive queue is empty and the reply queue untouched is taken as it arrives. -/
theorem atOnce {s : State} (h : s.link = Link.reset) (tag : Byte) (d : Directive) : Takes s tag d s :=
  takes_at_once tag d (by rw [h]; decide) (by rw [h]; rfl)

/-- The state a step leaves. -/
def after : StepResult → State
  | .next s => s
  | _ => State.reset

def inState (x : SurveyState) (tick : Nat) : State :=
  State.reset.mapSurvey fun y => { y with state := x, number := some 7, tick := tick, analysing := decide (x = .opened) }

def linked (f : Link → Link) : State := State.reset.mapLink f

def ringed (f : Ring → Ring) : State := State.reset.mapRing f

def anEntry : PodEntry := ⟨true, 1, 16, 2, 2000, 30, 0⟩

/-- Position 1 enabled, with the given record. -/
def podded (r : PodRecord) : State :=
  State.reset.mapPods fun x => { x with table := x.table.set 0 (some anEntry), records := x.records.set 0 r }

def inPodState (x : PodState) : PodRecord := { PodRecord.reset with state := x }

def aReply : Reply := ⟨1, 0x24, .ok, [1], 0⟩

def aNotice : Notice := ⟨1, .survey .opened (some 7) .opened⟩

def aSagRecord : SagRecord where
  number := 1
  group := 1
  kind := .sag
  start := 100
  halves := 2
  ms := 20
  residual := 5714
  worst := 1
  involved := [1]
  extremes := [(5714, 6000)]
  maximum := none
  burst := none
  flags := noEventFlags
  capture := some ⟨[1, 2], 0, 1, 0⟩
  lostBefore := 0

def aSag (status : SagStatus) : SagEntry := ⟨1, status, [5], List.replicate 241 [3, 4], 0, 0⟩

def anInterval (sent : Bool) : IntervalEntry :=
  ⟨⟨1, 1, 100, 400, 10, 10, 0, 0, 50000, false, false, false,
    List.replicate 5 ⟨1, some 12000, [⟨3, 320, some 266⟩], some 266, []⟩, 0⟩, sent, 0⟩

def aSampleFrame : SampleFrame := ⟨1, 1, 1, 1, 0, [1], [0], [[5]]⟩

def aHost (op : TxOp) (parameter age : Nat) : Transaction := ⟨0, 9, op, parameter, 0, .host 3 0x40, age⟩

def aJoin (op : TxOp) (parameter age : Nat) : Transaction := ⟨0, 9, op, parameter, 0, .join, age⟩

def aSweep (kind : SweepKind) (d : Direction) (turn : Nat) (path : List Pos) (returned : Option (List Slot)) : Sweep :=
  ⟨kind, d, turn, true, path, none, returned⟩

def slots (present : Bool) (status : BitVec 16) : List Slot := List.replicate 12 ⟨present, status, [1, 2, 3, 4]⟩

/-! ## The station link: worked values and witnesses -/

/-- The check value that R174's CRC gives for the characters 1 to 9 (R174 names the polynomial, its start and its order;
0x29B1 is the value that defines that CRC). -/
theorem test_crc_check_value :
    crc [0x31, 0x32, 0x33, 0x34, 0x35, 0x36, 0x37, 0x38, 0x39] = 0x29B1#16 := by
  decide +kernel

/-- A directive frame received whole stands in the directive queue. -/
theorem test_inbound_directive :
    (after (exec (.inboundFrame (0xA5 :: 0x5A :: ([0x01, 0x07, 0, 3, 0x24, 0, 0] ++
      u16 (crc [0x01, 0x07, 0, 3, 0x24, 0, 0]).toNat))) State.reset)).link.directives = [⟨0x07, [0x24, 0, 0]⟩] := by
  decide +kernel

/-- R176, R191: a payload whose operand length is not the rest's, whose code is unknown, or whose section list ends before
an announced section, cannot be read; a section that lacks an operand can. -/
theorem test_parse_refuses :
    parseDirective [] = none ∧ parseDirective [0x24, 0, 1] = none ∧ parseDirective [0x99, 0, 0] = none ∧
    parseDirective [0x06, 0, 3, 1, 2, 1] = none ∧
    parseDirective [0x06, 0, 3, 1, 1, 9] = some (.loadTemplate 1 (some ⟨1, [.unreadable]⟩)) ∧
    parseDirective [0x08, 0, 1, 64] = some (.loadLink 64) ∧
    parseDirective [0x41, 0, 4, 3, 2, 0x12, 0x34] = some (.podWrite 3 2 0x1234) ∧
    parseDirective [0x25, 0, 10, 0, 8, 0x49, 0x44, 0x45, 0x4E, 0x54, 0x49, 0x54, 0x59] = some (.readNote .identity) := by
  decide

theorem witness_StepRunsFront :
    ({ State.reset with pending := [.tickStart] } : State).pending = .tickStart :: [] ∧ State.reset.pending = [] :=
  ⟨rfl, rfl⟩

/-- The reply queue with 7 full entries and the reserved one, and a queue headed by another directive. -/
theorem witness_UnservedDirectives :
    (Instr.mark 1).directive = some (1, .mark) ∧
    (8 ≤ (linked fun l => { l with replies := List.replicate 7 aReply, reserved := some (1, 2) }).link.replies.length +
      (if (linked fun l => { l with replies := List.replicate 7 aReply, reserved := some (1, 2) }).link.reserved.isSome
       then 1 else 0)) ∧
    ((linked fun l => { l with directives := [⟨2, [0x24, 0, 0]⟩] }).link.directives = ⟨2, [0x24, 0, 0]⟩ :: [] ∧
      ¬((2 : Byte) = 1 ∧ parseDirective [0x24, 0, 0] = some .mark)) := by decide

/-- A directive at the head of the queue, with 7 replies waiting; and one taken as it arrives. -/
theorem witness_EveryDirectiveAnswered :
    (Instr.restart 5).directive = some (5, .restart) ∧
    Takes (linked fun l => { l with replies := List.replicate 7 aReply, directives := [⟨5, [0x12, 0, 0]⟩] }) 5 .restart
      (linked fun l => { l with replies := List.replicate 7 aReply, directives := [] }) ∧
    (Instr.podRead 5 1 0).directive = some (5, .podRead 1 0) ∧ Takes State.reset 5 (.podRead 1 0) State.reset :=
  ⟨rfl, ⟨by decide, .inr ⟨_, _, rfl, by decide, rfl⟩⟩, rfl, atOnce rfl _ _⟩

theorem witness_UnservedDirectives_bad :
    parseDirective [] = none ∧ parseDirective [0x99, 0, 0] = none ∧
    (linked fun l => { l with replies := List.replicate 7 aReply }).link.replies.length + 0 < 8 ∧
    (linked fun l => { l with directives := [⟨3, []⟩] }).link.directives = ⟨3, []⟩ :: [] ∧
    State.reset.link.directives = [] ∧
    (linked fun l => { l with directives := [⟨3, [1]⟩] }).link.directives = ⟨3, [1]⟩ :: [] ∧
    (⟨3, [1]⟩ : QueuedDirective) ≠ ⟨3, []⟩ := by decide

/-- The longest payload, the queue with room for one and full, a frame of another kind, the shortest length too long, the
gap at 1,024 ticks and one above, and a first run that leaves a frame in hand. -/
theorem witness_ReceiverJudges :
    State.reset.link.receiver = .hunting false ∧ (List.replicate 512 (0 : Byte)).length ≤ 512 ∧
    (linked fun l => { l with directives := List.replicate 3 ⟨1, []⟩ }).link.directives.length < 4 ∧
    4 ≤ (linked fun l => { l with directives := List.replicate 4 ⟨1, []⟩ }).link.directives.length ∧
    ¬((0 : BitVec 16) = crc [0x02, 7, 0, 0] ∧ (0x02 : Byte) = 0x01) ∧
    512 < (2 : Byte).toNat * 256 + (1 : Byte).toNat ∧
    (linked fun l => { l with receiver := .inFrame [1] 1025 }).link.receiver = .inFrame [1] 1025 ∧ 1024 < 1025 ∧
    (linked fun l => { l with receiver := .inFrame [1] 1024 }).link.receiver = .inFrame [1] 1024 ∧ 1024 ≤ 1024 ∧
    (after (exec (.inboundFrame [0xA5, 0x5A, 0x01]) State.reset)).link.receiver = .inFrame [0x01] 0 := by
  decide +kernel

theorem witness_ReceiverJudges_split : ∃ t, exec (.inboundFrame [0xA5, 0x5A, 0x01]) State.reset = .next t := ⟨_, rfl⟩

/-- R173, R175: a directive frame that comes in two runs stands in the directive queue. -/
theorem test_split_frame :
    let body : List Byte := [0x01, 0x07, 0, 3, 0x24, 0, 0]
    (after (exec (.inboundFrame (body.drop 2 ++ u16 (crc body).toNat))
      (after (exec (.inboundFrame (0xA5 :: 0x5A :: body.take 2)) State.reset)))).link.directives =
      [⟨0x07, [0x24, 0, 0]⟩] := by decide +kernel

/-- One state for each of the arbiter's choices, the grant count at the grant and just below it. -/
theorem witness_ArbiterChooses :
    (0 : Byte) = BitVec.ofNat 8 State.reset.link.sequence ∧
    (linked fun l => { l with replies := [aReply] }).link.replies = aReply :: [] ∧
    (linked fun l => { l with notices := [aNotice] }).link.notices = aNotice :: [] ∧
    (let l := (linked fun l => { l with records := [.sag aSagRecord false], samples := [aSampleFrame], grantCount := 8 }).link
     l.replies = [] ∧ l.notices = [] ∧ l.records = .sag aSagRecord false :: [] ∧ 0 < l.grant ∧ l.grant ≤ l.grantCount) ∧
    (let l := (linked fun l => { l with records := [.sag aSagRecord false], samples := [aSampleFrame], grantCount := 7 }).link
     l.replies = [] ∧ l.notices = [] ∧ l.samples = aSampleFrame :: [] ∧ l.grantCount < l.grant) ∧
    (let l := State.reset.link; l.replies = [] ∧ l.notices = [] ∧ l.records = [] ∧ l.samples = []) := by decide

theorem test_frameSend_reply_first :
    (after (exec .frameSend (linked fun l => { l with replies := [aReply], notices := [aNotice] }))).link.notices =
      [aNotice] := by decide +kernel

theorem witness_LinkAndPrinterLoads :
    Takes State.reset 1 (.loadLink 64) State.reset ∧ 64 ≤ 64 ∧ Takes State.reset 1 (.loadLink 65) State.reset ∧ 64 < 65 :=
  ⟨atOnce rfl _ _, by decide, atOnce rfl _ _, by decide⟩

theorem resetLinkBounds : LinkBounds State.reset.link := by constructor <;> decide

theorem witness_LinkBoundsKept :
    LinkBounds State.reset.link ∧ step { State.reset with pending := [.frameSend] } = .next State.reset :=
  ⟨resetLinkBounds, rfl⟩

/-! ## Survey runs and the tables -/

def aJob (n : Nat) (x : JobState) : Job :=
  ⟨n, 1, 0, 1000, 255, 1, 1, x, [], [], 0, false, .query, [], 1, 0, 0, 0⟩

def unusedChannel : ChannelFields := ⟨3, 0, 0, 0, 2, 2, 2⟩

/-- Locked; index 0 and above the last; the last index with a fault and without one; pods that join again, one that does not, and
a position that is not enabled. -/
theorem witness_ChannelAndGroupLoads :
    Takes (inState .opened 5) 1 (.loadChannel 1 none) (inState .opened 5) ∧ (inState .opened 5).survey.state ≠ .closed ∧
    (∀ k f, Takes State.reset 1 (.loadChannel k f) State.reset) ∧ State.reset.survey.state = .closed ∧ 48 < 49 ∧
    (48 = (47 : Chan).val + 1 ∧ channelFault { aChannel with kind := 4 } = some (.badValue, 1) ∧
      channelFault { aChannel with range := 5 } = some (.badTable, 2) ∧ channelFault unusedChannel = none) ∧
    (Takes (podded (inPodState .active)) 1 (.loadChannel 4 (some aChannel)) (podded (inPodState .active)) ∧
      (podded (inPodState .active)).pods.enabled 0 = true ∧
      ((podded (inPodState .active)).pods.records.get 0).state = .active ∧ State.reset.pods.enabled 0 = false) ∧
    (∀ x, Takes (podded (inPodState x)) 1 (.loadChannel 4 none) (podded (inPodState x)) ∧
      (podded (inPodState x)).pods.enabled 0 = true ∧ ((podded (inPodState x)).pods.records.get 0).state = x) ∧
    (∀ k f, Takes State.reset 1 (.loadGroup k f) State.reset) ∧ 8 < 9 ∧ 8 = (7 : Fin 8).val + 1 ∧
    groupFault { aGroup with members := [] } = some (.badValue, 1) ∧
    groupFault { aGroup with refB := none } = some (.badTable, 7) ∧ groupFault aGroup = none :=
  ⟨atOnce rfl _ _, by decide, fun _ _ => atOnce rfl _ _, rfl, by decide, by decide,
    ⟨atOnce rfl _ _, by decide, by decide, by decide⟩, fun _ => ⟨atOnce rfl _ _, rfl, rfl⟩, fun _ _ => atOnce rfl _ _,
    by decide⟩

/-- R43, R47, R61: a channel load has an ACTIVE pod join again: a POD notice of cause TABLE, its first read placed, four waiting. -/
theorem test_channel_rejoins :
    let t := after (exec (.loadChannel 1 4 none) (podded (inPodState .active)))
    (t.link.notices.map fun n =>
      match n.body with | .pod 0 .active .joining .table 0 _ => true | _ => false) = [true] ∧
    t.ring.request.map (fun x => (x.op, x.parameter)) = some (.joinRead, 0) ∧
    t.pods.joins = [⟨0, 1⟩, ⟨0, 2⟩, ⟨0, 3⟩, ⟨0, 4⟩] := by decide +kernel

/-- A load that changes the RAW set, in a tick not yet taken and at once, with a block in formation; and one that does not. -/
theorem witness_ChannelAndGroupLoads_raw :
    (∀ b : Bool, Takes (ringed fun r => { r with tickOpen := b }) 1 (.loadChannel 1 (some aChannel))
        (ringed fun r => { r with tickOpen := b }) ∧
      (ringed fun r => { r with tickOpen := b }).ring.tickOpen = b ∧
      (after (exec (.loadChannel 1 1 (some aChannel)) (ringed fun r => { r with tickOpen := b }))).survey.rawSet ≠
        (ringed fun r => { r with tickOpen := b }).survey.rawSet) ∧
    (after (exec (.loadChannel 1 1 (some unusedChannel)) State.reset)).survey.rawSet = State.reset.survey.rawSet := by
  refine ⟨fun b => ⟨atOnce rfl _ _, rfl, ?_⟩, by decide +kernel⟩
  cases b <;> decide +kernel

/-- OPEN and CLOSING with each load taken, a template in use, and a step that completes while the tables are locked. -/
theorem witness_TablesHoldWhileLocked :
    (∀ d, Takes (inState .opened 5) 1 d (inState .opened 5)) ∧ (inState .opened 5).survey.state ≠ .closed ∧
    (inState .closing 5).survey.state ≠ .closed ∧
    (∃ j ∈ (State.reset.mapPrinter fun x => { x with jobs := [aJob 1 .queued] }).printer.jobs, j.template = 1) ∧
    Takes (State.reset.mapPrinter fun x => { x with jobs := [aJob 1 .queued] }) 1 (.loadTemplate 1 none)
      (State.reset.mapPrinter fun x => { x with jobs := [aJob 1 .queued] }) ∧
    Instr.frameSend ≠ .hardwareReset ∧ ∃ t, exec .frameSend (inState .opened 5) = .next t :=
  ⟨fun _ => atOnce rfl _ _, by decide, by decide, ⟨_, List.mem_singleton.mpr rfl, rfl⟩, atOnce rfl _ _, by decide, _, rfl⟩

/-- An unset entry at the last index, a set one, indexes just outside, and tables just outside. -/
theorem witness_TableKitAndSnapshotRead :
    (∀ k i, Takes State.reset 1 (.readTable k i) State.reset) ∧ 48 = (47 : Chan).val + 1 ∧
    State.reset.survey.channels.get 47 = none ∧ 48 < 49 ∧
    (podded (inPodState .active)).pods.table.get 0 = some anEntry ∧
    Takes (podded (inPodState .active)) 1 (.readTable 5 1) (podded (inPodState .active)) ∧ 6 < 7 :=
  ⟨fun _ _ => atOnce rfl _ _, rfl, rfl, by decide, by decide, atOnce rfl _ _, by decide⟩

/-- READ-TABLE of an unset entry gives the table, the index and the mark UNSET. -/
theorem test_readTable_unset :
    (after (exec (.readTable 9 4 4) State.reset)).link.replies = [⟨9, 0x09, .ok, [4, 4, 0], 0⟩] := by decide +kernel

def openFields : OpenFields := ⟨7, 1000, none, none⟩

/-- The survey tables filled: every channel mapped, six to a block of which four are voltages, and groups of the sizes
given, one to a block, with profiles of 8 pre half-cycles but for a last group with one. -/
def filled (sizes : List Nat) : State :=
  let s := State.reset.mapSurvey fun x =>
    { x with
      channels := Table.tabulate 48 fun c =>
        some (.mapped ⟨if c.val % 6 < 4 then .voltage else .current, 1, 14000, 230, true, true, true⟩)
      groups := Table.tabulate 8 fun n =>
        (sizes[n.val]?).map fun k =>
          ⟨(List.range k).map (fun i => n.val * 6 + i + 1), if k = 1 then 2 else 1, none, 50, n.val * 6 + 1, none, 0, 3,
            96, 32, 4, 50⟩ }
  s.mapEvents fun x =>
    { x with profiles := (x.profiles.set 0 (some aProfile)).set 1 (some { aProfile with pre := 1 }) }

/-- The cross-table checks of R11 as a computation, for the filled tables. -/
def openCheck (s : State) : Bool :=
  ((indexes 8).all fun n => (s.survey.groups.get n).all fun g =>
    (g.members.all fun c => (s.survey.channel c).any fun m => m.analyse) &&
    decide (1 ≤ (s.survey.voltageMembers g).length) && decide ((s.survey.voltageMembers g).length ≤ 4) &&
    ((s.survey.channel g.refA).any fun m => decide (m.kind = .voltage)) && g.refB.isNone &&
    ((ofNumber 8 g.profile).bind s.events.profiles.get).isSome &&
    g.bins.all fun b => ((ofNumber 4 b).bind s.harmonics.binSets.get).isSome) &&
  ((indexes 8).all fun n => (indexes 8).all fun k =>
    (s.survey.groups.get n).all fun g => (s.survey.groups.get k).all fun h =>
      decide (n = k) || g.members.all fun c => !h.members.contains c)

theorem channelIs_of {x : Survey} {c : Nat} {test : MappedChannel → Prop} {f : MappedChannel → Bool}
    (h : (x.channel c).any f = true) (k : ∀ m, f m = true → test m) : ChannelIs x test c := by
  unfold Survey.channel Survey.mapped at h
  cases hi : ofNumber 48 c with
  | none => simp [hi] at h
  | some i =>
    cases hc : x.channels.get i with
    | none => simp [hi, hc] at h
    | some e =>
      cases e with
      | unused => simp [hi, hc] at h
      | mapped m => exact ⟨i, m, hi, hc, k m (by simpa [hi, hc] using h)⟩

theorem entrySet {α : Type} {n k : Nat} {t : Table (Option α) n} (h : ((ofNumber n k).bind t.get).isSome = true) :
    ∃ i x, ofNumber n k = some i ∧ t.get i = some x := by
  obtain ⟨x, hx⟩ := Option.isSome_iff_exists.mp h
  obtain ⟨i, hi, hix⟩ := Option.bind_eq_some_iff.mp hx
  exact ⟨i, x, hi, hix⟩

theorem openable_of {s : State} (h : openCheck s = true) : Openable s := by
  unfold openCheck at h
  simp only [Bool.and_eq_true, List.all_eq_true] at h
  refine ⟨fun n g hg => ?_, fun n g k l hg hl hn c hc => ?_⟩
  · have := h.1 n (mem_indexes n)
    simp only [hg, Option.all_some, Bool.and_eq_true, List.all_eq_true] at this
    obtain ⟨⟨⟨⟨⟨⟨h1, h2⟩, h3⟩, h4⟩, h5⟩, h6⟩, h7⟩ := this
    refine ⟨fun c hc => channelIs_of (h1 c hc) fun m => id, ⟨of_decide_eq_true h2, of_decide_eq_true h3⟩,
      channelIs_of h4 fun m => of_decide_eq_true, fun b hb => by simp [hb] at h5, entrySet h6, fun b hb => ?_⟩
    rw [hb] at h7
    exact entrySet h7
  · have := h.2 n (mem_indexes n) k (mem_indexes k)
    simp only [hg, hl, Option.all_some, Bool.or_eq_true, decide_eq_true_eq, List.all_eq_true] at this
    have := (this.resolve_left hn) c hc
    simpa using this

/-- Group 1 with a member whose channel is unset. -/
def ungrounded : State := State.reset.mapSurvey fun x => { x with groups := x.groups.set 0 (some aGroup) }

/-- Group 1 analysed with the bins given, and no other group. -/
def withBins (b : Option Nat) : State :=
  ((filled [6]).mapSurvey fun x =>
    { x with groups := x.groups.set 0 (some ⟨[1, 2, 3], 1, b, 50, 1, none, 0, 3, 96, 32, 4, 50⟩) }).mapHarmonics fun x =>
    { x with binSets := x.binSets.set 0 (some aBinSet) }

/-- Each refusal in its turn, and the reservation at 64 pages and at 65. -/
theorem witness_OpenSurveyOpens :
    Takes (inState .opened 5) 1 (.openSurvey openFields) (inState .opened 5) ∧ (inState .opened 5).survey.state ≠ .closed ∧
    (State.reset.survey.state = .closed ∧ (State.reset.mapPrinter fun x => { x with jobs := [aJob 1 .queued] }).printer.jobs ≠ []) ∧
    (∀ f, Takes State.reset 1 (.openSurvey f) State.reset) ∧ State.reset.printer.jobs = [] ∧
    (openFault { openFields with number := 0 } = some 1 ∧ openFault { openFields with crew := some [1, 2, 3, 4, 5] } = some 4 ∧
      openFault { openFields with number := 65535 } = none) ∧
    (Takes ungrounded 1 (.openSurvey openFields) ungrounded ∧ openFault openFields = none ∧ firstBroken ungrounded = some (1, 1)) ∧
    (Takes (filled [6, 6, 6, 6, 4, 4]) 1 (.openSurvey openFields) (filled [6, 6, 6, 6, 4, 4]) ∧
      Openable (filled [6, 6, 6, 6, 4, 4]) ∧ pagesNeeded (filled [6, 6, 6, 6, 4, 4]) = 64) ∧
    (Takes (filled [6, 6, 6, 6, 4, 4, 1]) 1 (.openSurvey openFields) (filled [6, 6, 6, 6, 4, 4, 1]) ∧
      Openable (filled [6, 6, 6, 6, 4, 4, 1]) ∧ pagesNeeded (filled [6, 6, 6, 6, 4, 4, 1]) = 65) := by
  refine ⟨atOnce rfl _ _, by decide, by decide, fun _ => atOnce rfl _ _, rfl, by decide,
    ⟨atOnce rfl _ _, by decide, by decide +kernel⟩, ⟨atOnce rfl _ _, openable_of (by decide +kernel), by decide +kernel⟩,
    ⟨atOnce rfl _ _, openable_of (by decide +kernel), by decide +kernel⟩⟩

/-- R13, R113: an accepted OPEN-SURVEY answers its number and the pages it reserves, and stops the emission in progress. -/
theorem test_open_survey :
    (after (exec (.openSurvey 4 openFields) (filled [6]))).link.replies = [⟨4, 0x10, .ok, [0, 7, 12], 0⟩] ∧
    (after (exec (.openSurvey 4 openFields) (filled [6]))).events.freePages.length = 116 ∧
    (after (exec (.openSurvey 4 openFields) ((filled [6]).mapEvents fun x => { x with emission := some ⟨1, 2⟩ }))).events.emission =
      none := by decide +kernel

/-- An analysed group, one without a bin set, and an unset one. -/
theorem witness_OpenSurveyOpens_groups :
    Takes (withBins (some 1)) 1 (.openSurvey openFields) (withBins (some 1)) ∧ Openable (withBins (some 1)) ∧
    pagesNeeded (withBins (some 1)) = 6 ∧ (withBins (some 1)).survey.state = .closed ∧
    ((withBins (some 1)).survey.groups.get 0).bind (withBins (some 1)).analysedBins = some aBinSet ∧
    Openable (withBins none) ∧ ((withBins none).survey.groups.get 0).bind (withBins none).analysedBins = none ∧
    (((withBins none).survey.groups.get 0).bind fun g => (ofNumber 8 g.profile).bind (withBins none).events.profiles.get) =
      some aProfile ∧
    (withBins none).survey.groups.get 1 = none :=
  ⟨atOnce rfl _ _, openable_of (by decide +kernel), by decide +kernel, rfl, by decide +kernel,
    openable_of (by decide +kernel), by decide +kernel⟩

/-- R116: OPEN-SURVEY leaves an analysed group's accumulators empty, a cell for each member and order. -/
theorem test_open_analysed :
    let g := (after (exec (.openSurvey 4 openFields) (withBins (some 1)))).harmonics.groups.get 0
    g.summary.members = [1, 2, 3] ∧ g.summary.orders = [3, 5, 7] ∧ g.block.valid = [0, 0, 0] ∧
    (g.summary.cells.map fun l => l.length) = [4, 4, 4] := by decide +kernel

def anEvent : Event where
  number := some 1
  recorded := true
  start := 100
  stop := none
  halves := 1
  extremes := [none]
  involved := [1]
  allInterruption := false
  sagMark := true
  swellMark := false
  flags := noEventFlags
  capture := ⟨[], 0, 0, 0, 0, [], true⟩
  burst := none
  postLeft := 0

def inEvent : State :=
  ((inState .opened 300).mapSurvey fun x => { x with groups := x.groups.set 0 (some aGroup) }).mapEvents fun x =>
    { x with groups := x.groups.set 0 { GroupEvents.reset with machine := .active, event := some anEvent } }

/-- A survey OPEN at tick 300 with group 1 analysed, a cycle pending and an interval begun. -/
def inCycle : State :=
  (((filled [6]).mapSurvey fun x =>
      { x with
        state := .opened, number := some 7, tick := 300, analysing := true
        groups := x.groups.set 0 (some ⟨[1, 2, 3], 1, some 1, 50, 1, some 2, 16, 3, 96, 32, 4, 50⟩) }).mapHarmonics fun x =>
    { x with
      binSets := x.binSets.set 0 (some aBinSet)
      groups := x.groups.set 0
        { GroupHarmonics.opened [1, 2, 3] [3, 5, 7] with
          pending := some ⟨96, 300, [none, none, none]⟩
          interval := { emptyInterval 3 4 with start := some 96 } } }).mapEvents fun x =>
    { x with groups := x.groups.set 0 { GroupEvents.reset with machine := .post, event := some anEvent } }

/-- Not OPEN; an event in ACTIVE whose entry is in the list, and one in POST; a pending cycle, and an interval in progress that
finds room; no boundary due, and one. -/
theorem witness_CloseSurveyCloses :
    Takes State.reset 1 .closeSurvey State.reset ∧ State.reset.survey.state ≠ .opened ∧
    Takes inEvent 1 .closeSurvey inEvent ∧ inEvent.survey.state = .opened ∧
    inEvent.survey.groups.get 0 = some aGroup ∧ (inEvent.events.groups.get 0).machine = .active ∧
    (inEvent.events.groups.get 0).event = some anEvent ∧ (∀ n, (inEvent.trackers.get n).due = none) ∧
    Takes inCycle 1 .closeSurvey inCycle ∧ inCycle.survey.state = .opened ∧
    ((inCycle.events.groups.get 0).machine = .post ∧ (inCycle.events.groups.get 0).event = some anEvent) ∧
    ((inCycle.survey.groups.get 0).bind inCycle.analysedBins = some aBinSet ∧
      (inCycle.harmonics.groups.get 0).pending = some ⟨96, 300, [none, none, none]⟩ ∧
      (inCycle.harmonics.groups.get 0).interval.start = some 96 ∧ inCycle.harmonics.intervals.length + 8 ≤ 96) ∧
    (anEvent.recorded = true ∧ anEvent.number = some 1 ∧ (aSag .opened).number = 1) := by
  refine ⟨atOnce rfl _ _, by decide, atOnce rfl _ _, by decide, by decide, by decide, by decide +kernel, fun n => ?_,
    atOnce rfl _ _, by decide, by decide +kernel, by decide +kernel, by decide⟩
  rw [show inEvent.trackers = State.reset.trackers from rfl,
    show State.reset.trackers.get n = Tracker.reset from Table.get_replicate _ n]
  rfl

/-- A retained record, a pod that is not DISABLED, and a host transaction with its reserved entry; a join one; and an event in
progress with no boundary due. -/
theorem witness_RestartRestarts :
    (let s := ((podded (inPodState .latched)).mapEvents fun x => { x with sags := [aSag (.sent aSagRecord)] }).mapRing fun r =>
      { r with request := some (aJoin .joinRead 0 5) }
     Takes s 1 .restart s ∧ (s.pods.records.get 1).state = .disabled ∧ (s.pods.records.get 0).state ≠ .disabled ∧
      (∀ e ∈ s.events.sags, e.status ≠ .opened) ∧ ∀ t ∈ s.ring.request, t.client = .join) ∧
    (let s := (ringed fun r => { r with request := some (aHost .read 0 5) }).mapLink fun l => { l with reserved := some (3, 0x40) }
     Takes s 1 .restart s ∧ s.ring.request = some (aHost .read 0 5) ∧ (aHost .read 0 5).client = .host 3 0x40 ∧
      s.link.reserved = some (3, 0x40)) ∧
    (Takes inEvent 1 .restart inEvent ∧ inEvent.survey.groups.get 0 = some aGroup ∧
      ∀ n, (inEvent.trackers.get n).due = none) := by
  refine ⟨⟨atOnce rfl _ _, by decide⟩, ⟨⟨by decide, .inl ⟨rfl, rfl⟩⟩, by decide⟩, atOnce rfl _ _, by decide +kernel,
    fun n => ?_⟩
  rw [show inEvent.trackers = State.reset.trackers from rfl,
    show State.reset.trackers.get n = Tracker.reset from Table.get_replicate _ n]
  rfl

/-- R16, R40, R179: the withdrawn transaction is answered ABORTED before RESTART's own OK, and takes the overrun count. -/
theorem test_restart_aborts :
    (after (exec (.restart 1)
      ((ringed fun r => { r with request := some (aHost .read 0 5) }).mapLink fun l =>
        { l with reserved := some (3, 0x40), overrun := 2 }))).link.replies =
      [⟨3, 0x40, .aborted, [], 2⟩, ⟨1, 0x12, .ok, [], 0⟩] := by decide +kernel

theorem witness_CountersAndPeaksClear : Takes (inState .closing 5) 1 .clearCounters (inState .closing 5) := atOnce rfl _ _

/-! ## The pod ring -/

/-- An open tick and a closed one, with a host transaction a tick short of its limit; a receiver that hunts, and one whose frame
has waited 1,024 ticks. -/
theorem witness_TicksBeginAndDispatch :
    (ringed fun r => { r with tickOpen := true }).ring.tickOpen = true ∧ State.reset.ring.tickOpen = false ∧
    (ringed fun r => { r with request := some (aHost .read 0 2047) }).ring.request = some (aHost .read 0 2047) ∧
    (aHost .read 0 2047).age < 2048 ∧ (aHost .read 0 2047).client ≠ .join ∧ State.reset.link.receiver = .hunting false ∧
    ((linked fun l => { l with receiver := .inFrame [1] 1024 }).link.receiver = .inFrame [1] 1024 ∧ 1024 ≤ 1024) := by
  decide

/-- R9: the survey tick count holds at 2^48 − 1. -/
theorem test_tick_holds :
    (after (exec .tickStart (inState .opened (2 ^ 48 - 1)))).survey.tick = 2 ^ 48 - 1 ∧
    (after (exec .tickStart (inState .opened 8))).survey.tick = 9 := by decide +kernel

/-- Positions 1 and 3 enabled, the ring as given. -/
def looped (f : Ring → Ring) : State :=
  (State.reset.mapPods fun x => { x with table := (x.table.set 0 (some anEntry)).set 2 (some anEntry) }).mapRing f

/-- The ring after TICK_START. -/
def begun (s : State) : Ring := (after (exec .tickStart s)).ring

/-- Every row of the dispatch: each mode, each pair of turns, a healing tick and the tick before one, each phase of a search,
and a trial that is due. -/
theorem witness_TicksBeginAndDispatch_sweeps :
    State.reset.ring.tickOpen = false ∧ (∀ s, ∃ t, exec .tickStart s = .next t) ∧
    ((begun (looped fun r => { r with mode := .forward })).mode = .forward ∧ (looped id).pods.pMax = 3 ∧
      (begun (ringed fun r => { r with mode := .forward })).mode = .forward ∧ State.reset.pods.pMax = 0) ∧
    (begun (looped fun r => { r with mode := .reverse, modeTicks := 10238 })).modeTicks = 10239 ∧
    ((begun (looped fun r => { r with mode := .reverse, modeTicks := 10239 })).mode = .reverse ∧
      (begun (looped fun r => { r with mode := .reverse, modeTicks := 10239 })).modeTicks = 10240) ∧
    ((begun (looped fun r => { r with mode := .split, tf := 1, tr := 3 })).mode = .split ∧
      (begun (looped fun r => { r with mode := .split, tf := 1, tr := 3 })).tr = 3 ∧
      (begun (looped fun r => { r with mode := .split, tf := 1, tr := 0 })).tr = 0 ∧
      (begun (looped fun r => { r with mode := .split, tf := 0, tr := 3 })).tf = 0) ∧
    (begun (looped fun r => { r with mode := .down })).mode = .down ∧
    ((begun (looped id)).mode = .search ∧ (dueTaken (looped id)).ring.search = .start ∧
      (begun (looped fun r => { r with search := .forwardProbe 2 })).mode = .search ∧
      (dueTaken (looped fun r => { r with search := .forwardProbe 2 })).ring.search = .forwardProbe 2 ∧
      (begun (looped fun r => { r with search := .reverseProbe 1 2 })).mode = .search ∧
      (dueTaken (looped fun r => { r with search := .reverseProbe 1 2 })).ring.search = .reverseProbe 1 2 ∧
      (begun (looped fun r => { r with mode := .down, modeTicks := 10240 })).mode = .search ∧
      (begun (looped fun r => { r with mode := .split, modeTicks := 10239 })).trialDue = true) ∧
    ((looped fun r => { r with tickOpen := true, trialDue := true }).ring.tickOpen = true ∧
      (looped fun r => { r with tickOpen := true, trialDue := true }).ring.trialDue = true) :=
  ⟨rfl, fun _ => ⟨_, rfl⟩, by decide +kernel⟩

/-- R30, R35: a search begins with a forward probe turned at P_max, also one that DOWN_RETRY has just begun. -/
theorem test_search_begins :
    (begun (looped id)).sweeps = [aSweep .probe .forward 3 [0, 2] none] ∧ (begun (looped id)).search = .forwardProbe 3 ∧
    (begun (looped fun r => { r with mode := .down, modeTicks := 10240 })).search = .forwardProbe 3 := by decide +kernel

/-- The first 145 bytes of a frame of sweep 1, direction FORWARD, with the given request slot and pod slots of zeros. -/
def frameBody (request : List Byte) : List Byte := [0, 1, 0, 0] ++ request ++ List.replicate 132 0

/-- The frame with its check sequence. -/
def ringFrame (request : List Byte) : List Byte := frameBody request ++ u16 (crc (frameBody request)).toNat

/-- The frame is whole and its check sequence passes, whatever the check sequence is. -/
theorem ringFrame_intact {request : List Byte} (h : request.length = 9) :
    (ringFrame request).length = 147 ∧
    (crc ((ringFrame request).take 145)).toNat = beNat ((ringFrame request).drop 145) := by
  have k : (frameBody request).length = 145 := by simp [frameBody, h]
  have u : ∀ n < 65536, beNat (u16 n) = n := by
    intro n hn
    simp only [beNat, u16, List.foldl, BitVec.toNat_ofNat]
    omega
  refine ⟨by simp [ringFrame, k, u16], ?_⟩
  rw [ringFrame, List.take_left' k, List.drop_left' k, u _ (crc (frameBody request)).isLt]

/-- A tick open with one forward sweep of sweep number 1 in flight, the slot as given. -/
def inFlight (t : Option Transaction) : State :=
  looped fun r =>
    { r with mode := .forward, tickOpen := true, sweepNumber := 1, request := t,
             sweeps := [aSweep .regular .forward 3 [0, 2] none] }

/-- A frame that is the return of the sweep in flight, at the deadline and after it, and one cut short. -/
theorem witness_SweepReturnTaken :
    (inFlight none).ring.tickOpen = true ∧ 800 ≤ 800 ∧
    ((ringFrame (List.replicate 9 0)).length = 147 ∧
      (crc ((ringFrame (List.replicate 9 0)).take 145)).toNat = beNat ((ringFrame (List.replicate 9 0)).drop 145)) ∧
    (∃ w ∈ (inFlight none).ring.sweeps, w.returned = none ∧
      beNat ((ringFrame (List.replicate 9 0)).take 2) = (inFlight none).ring.sweepNumber ∧ w.direction = .forward ∧
      (ringFrame (List.replicate 9 0))[2]? = some 0x00) ∧
    (∀ x ∈ (inFlight none).ring.request, frameAnswer (ringFrame (List.replicate 9 0)) x = none) ∧ 800 < 801 ∧
    ((ringFrame (List.replicate 9 0)).take 146).length ≠ 147 :=
  ⟨rfl, by decide, ringFrame_intact rfl, ⟨_, List.mem_singleton.mpr rfl, rfl, by decide +kernel, rfl, by decide +kernel⟩,
    by simp [inFlight, looped], by decide, by rw [List.length_take, (ringFrame_intact rfl).1]; decide⟩

/-- A frame that answers transaction 9 of position 1 with 0x1234, under the given answer kind. -/
def answered (kind : Byte) : List Byte := ringFrame [1, 9, 1, 0, 0, 0, kind, 0x12, 0x34]

theorem awaits_answered (s : State) (k : Byte) (h : s.ring = (inFlight s.ring.request).ring) :
    s.ring.awaits .forwardPort (answered k) 800 = true := by
  have intact : frameIntact (answered k) = true := by
    have whole := ringFrame_intact (request := [1, 9, 1, 0, 0, 0, k, 0x12, 0x34]) rfl
    rw [frameIntact, answered, decide_eq_true whole.1, decide_eq_true whole.2]
    rfl
  rw [h]
  simp only [Ring.awaits, intact, Bool.and_true]
  rfl

/-- A host transaction in the slot of the tick in flight, with its reserved entry. -/
def asked (op : TxOp) (k : Nat) : State :=
  (inFlight (some (aHost op k 2047))).mapLink fun l => { l with reserved := some (3, 0x40) }

/-- A host transaction answered DONE and REFUSED, a range write to an ACTIVE pod, and the timeout at its limit and a tick
before it. -/
theorem witness_HostTransactionEnds :
    (aHost .read 0 0).number < 256 ∧
    (∀ op k, (asked op k).ring.request = some (aHost op k 2047) ∧ (aHost op k 2047).client = .host 3 0x40 ∧
      (asked op k).link.reserved = some (3, 0x40) ∧ (asked op k).pods.joins = [] ∧
      (asked op k).ring.awaits .forwardPort (answered 1) 800 = true ∧
      (asked op k).ring.awaits .forwardPort (answered 2) 800 = true) ∧
    ((answered 1)[4]? = some (BitVec.ofNat 8 ((aHost .write 1 0).target.val + 1)) ∧
      (answered 1)[5]? = some (BitVec.ofNat 8 (aHost .write 1 0).number) ∧ (answered 1)[10]? = some 0x01 ∧
      (answered 2)[4]? = some (BitVec.ofNat 8 ((aHost .write 1 0).target.val + 1)) ∧
      (answered 2)[5]? = some (BitVec.ofNat 8 (aHost .write 1 0).number) ∧ (answered 2)[10]? = some 0x02) ∧
    (((asked .write 1).pods.records.get 0).state ≠ .active ∧
      (((asked .write 4).mapPod 0 fun r => { r with state := .active }).pods.records.get 0).state = .active) ∧
    (let s := (looped fun r => { r with request := some (aHost .read 0 2048) }).mapLink fun l =>
      { l with reserved := some (3, 0x40) }
     s.ring.tickOpen = false ∧ 2048 ≤ (aHost .read 0 2048).age ∧ (aHost .read 0 2047).age < 2048) :=
  ⟨by decide, fun _ _ => ⟨rfl, rfl, rfl, rfl, awaits_answered _ _ rfl, awaits_answered _ _ rfl⟩, by decide +kernel,
    by decide +kernel, by decide⟩

/-- Joins of a higher position alone, and of a lower one, that wait at the range write to an ACTIVE pod. -/
theorem witness_HostTransactionEnds_waiting :
    let s (q : Pos) := ((asked .write 4).mapPod q fun r => { r with state := .active }).mapPods fun x =>
      { x with joins := [⟨1, 2⟩] }
    (∀ q, (s q).ring.awaits .forwardPort (answered 1) 800 = true ∧ (s q).pods.joins = [⟨1, 2⟩]) ∧
    ((s 0).pods.records.get 0).state = .active ∧ (∀ j ∈ ([⟨1, 2⟩] : List JoinTransaction), (0 : Pos) < j.position) ∧
    ([⟨1, 2⟩] : List JoinTransaction).filter (fun j => decide (j.position ≠ 2)) = ⟨1, 2⟩ :: [] ∧ (1 : Pos) < 2 :=
  ⟨fun _ => ⟨awaits_answered _ _ rfl, rfl⟩, by decide +kernel, by decide, by decide, by decide⟩

/-- R39, R47: the freed slot takes the join that waits. -/
theorem test_slot_refilled :
    let t := after (exec (.sweepReturn .forwardPort (answered 2) 800) ((asked .read 0).mapPods fun x =>
      { x with joins := [⟨1, 2⟩, ⟨1, 3⟩] }))
    t.ring.request.map (fun x => (x.target, x.op, x.parameter, x.value)) = some (1, .joinRead, 2, 0) ∧
    t.pods.joins = [⟨1, 3⟩] := by
  simp only [exec, execSweepReturn, awaits_answered ((asked .read 0).mapPods fun x =>
      { x with joins := [⟨1, 2⟩, ⟨1, 3⟩] }) 2 rfl, if_true]
  decide +kernel

/-- R40, R58: a DONE answer fills the reserved reply with its value. -/
theorem test_host_answer :
    (after (exec (.sweepReturn .forwardPort (answered 1) 800) (asked .read 0))).link.replies =
      [⟨3, 0x40, .ok, [0x12, 0x34], 0⟩] := by
  simp only [exec, execSweepReturn, awaits_answered (asked .read 0) 1 rfl, if_true]
  decide +kernel

/-- R50, R58: a range write to an ACTIVE pod has it join again, with its quiet timer stopped and a POD notice of cause REJOIN. -/
theorem test_range_write :
    let s := (asked .write 4).mapPod 0 fun r =>
      { r with state := .active, quiet := some 9, readings := Table.replicate 5 (some 1) }
    let t := after (exec (.sweepReturn .forwardPort (answered 1) 800) s)
    (t.pods.records.get 0).state = .joining ∧ (t.pods.records.get 0).quiet = none ∧
    (t.pods.records.get 0).readings = Table.replicate 5 none ∧
    t.link.notices.any (fun n => match n.body with | .pod 0 .active .joining .rejoin _ _ => true | _ => false) = true := by
  have back := awaits_answered ((asked .write 4).mapPod 0 fun r =>
    { r with state := .active, quiet := some 9, readings := Table.replicate 5 (some 1) }) 1 rfl
  simp only [exec, execSweepReturn, back, if_true]
  decide +kernel

/-- A join transaction in the slot of the tick in flight, for a pod in JOINING. -/
def joining (op : TxOp) (k : Nat) : State :=
  (inFlight (some (aJoin op k 5))).mapPod 0 fun r => { r with state := .joining }

/-- A pod in JOINING at position 1 whose join transaction is answered, refused or left unanswered, reachable and not, with
nothing that waits, and with joins of its own and of another position that wait. -/
theorem witness_JoinTransactionEnds :
    (∀ op k, (joining op k).ring.request = some (aJoin op k 5) ∧ (aJoin op k 5).client = .join ∧
      (joining op k).pods.joins = [] ∧ ((joining op k).pods.records.get 0).state = .joining ∧
      (joining op k).ring.awaits .forwardPort (answered 1) 800 = true ∧
      (joining op k).ring.awaits .forwardPort (answered 2) 800 = true) ∧
    (frameAnswer (answered 1) (aJoin .joinRead 4 5) = some (.answered 0x1234) ∧ (4 : Fin 5).val = 4 ∧
      (∃ j, j ≠ 4 ∧ ((joining .joinRead 4).pods.records.get 0).readings.get j = none) ∧
      frameAnswer (answered 1) (aJoin .joinWrite 5 5) = some (.answered 0x1234) ∧
      frameAnswer (answered 2) (aJoin .joinRead 4 5) = some (.refused 0x1234)) ∧
    (let s := (looped fun r => { r with request := some (aJoin .joinRead 4 2048) }).mapPod 0 fun r =>
      { r with state := .joining }
     s.ring.tickOpen = false ∧ 2048 ≤ (aJoin .joinRead 4 2048).age ∧ s.ring.unreachable.get 0 = false ∧
      (s.mapRing fun r => { r with unreachable := r.unreachable.set 0 true }).ring.unreachable.get 0 = true) ∧
    (([] : List JoinTransaction).Pairwise fun a b =>
      a.position < b.position ∨ (a.position = b.position ∧ a.parameter ≤ b.parameter)) ∧
    (let s := (joining .joinRead 1).mapPods fun x => { x with joins := [⟨0, 2⟩, ⟨2, 0⟩] }
     s.ring.awaits .forwardPort (answered 1) 800 = true ∧
      s.pods.joins.filter (fun j => decide (j.position ≠ (aJoin .joinRead 1 5).target)) = ⟨2, 0⟩ :: []) :=
  ⟨fun _ _ => ⟨rfl, rfl, rfl, rfl, awaits_answered _ _ rfl, awaits_answered _ _ rfl⟩, by decide +kernel, by decide, .nil,
    awaits_answered _ _ rfl, by decide⟩

/-- The fifth reading, with the other four stored: the type code of the entry is 1, so the readings agree with 1 and not with 2. -/
theorem witness_JoinTransactionEnds_compared :
    let s (v : Nat) := (joining .joinRead 4).mapPod 0 fun r =>
      { r with readings := ((Table.replicate 5 (some 1)).set 0 (some v)).set 4 none }
    (∀ v, (s v).ring.request = some (aJoin .joinRead 4 5) ∧ (s v).pods.joins = [] ∧
      ((s v).pods.records.get 0).state = .joining ∧ (s v).ring.awaits .forwardPort (answered 1) 800 = true ∧
      ∀ j, j ≠ 4 → ((s v).pods.records.get 0).readings.get j ≠ none) ∧
    ((s 1).pods.entry 0).typeCode = 1 ∧ (s 1).survey.channels.get 0 = none ∧
    (((s 1).pods.records.get 0).readings.get 0 = some 1 ∧ ((s 2).pods.records.get 0).readings.get 0 = some 2) := by
  refine ⟨fun v => ⟨rfl, rfl, rfl, awaits_answered _ _ rfl, fun j h => ?_⟩, by decide +kernel, by decide +kernel,
    by decide +kernel⟩
  have h : j = 0 ∨ j = 1 ∨ j = 2 ∨ j = 3 := by omega
  rcases h with rfl | rfl | rfl | rfl <;> exact Option.some_ne_none _

/-- A tick in FORWARD whose sweep over positions 1 and 3 came back with the slot given, the pod of position 1 ACTIVE. -/
def swept (slot : Option (List Slot)) : State :=
  (looped fun r =>
    { r with mode := .forward, tickOpen := true, sweeps := [aSweep .regular .forward 3 [0, 2] slot] }).mapPod 0 fun r =>
    { r with state := .active, silence := 3 }

theorem slotBack_swept (present : Bool) (status : BitVec 16) :
    SlotBack (swept (some (slots present status))).ring 0 ⟨present, status, [1, 2, 3, 4]⟩ := by
  refine ⟨fun x hx _ => ?_, ⟨_, List.mem_singleton.mpr rfl, SweepKind.noConfusion, List.mem_cons_self⟩, fun x hx _ _ => ?_⟩ <;>
    cases List.mem_singleton.mp hx
  · rfl
  · exact ⟨_, rfl, rfl⟩

/-- A fresh channel, one with its CLAMP_OPEN bit, a lost sweep, a slot not present, and no open tick. -/
theorem witness_LatchesAtClose :
    State.reset.ring.tickOpen = false ∧ (∀ x, (swept x).ring.tickOpen = true) ∧ (3 : Chan).val = (0 : Pos).val * 4 + 3 ∧
    SlotBack (swept (some (slots true 0x0087#16))).ring 0 ⟨true, 0x0087#16, [1, 2, 3, 4]⟩ ∧
    ((0x0087#16).getLsbD 3 = false ∧ (0x0087#16).getLsbD 2 = true ∧
      ∀ x, ((swept x).pods.records.get 0).state = .active ∧ (swept x).ring.unreachable.get 0 = false) ∧
    (∃ x ∈ (swept none).ring.sweeps, x.kind = .regular ∧ x.returned = none) ∧
    NoSlot (swept (some (slots false 0#16))).ring 0 := by
  refine ⟨rfl, fun _ => rfl, rfl, slotBack_swept _ _, ⟨by decide, by decide, fun x => ⟨rfl, rfl⟩⟩,
    ⟨_, List.mem_singleton.mpr rfl, rfl, rfl⟩, fun x hx _ _ l hl w hw => ?_⟩
  cases List.mem_singleton.mp hx
  cases hl
  cases hw
  rfl

/-- R26: channel 4 takes its sample and its OVERLOAD bit; channel 3, whose CLAMP_OPEN is set, is held with its gap flag. -/
theorem test_latches :
    let r := (after (exec .tickClose (swept (some (slots true 0x0087#16))))).ring
    r.latches.get 3 = ⟨4, false, true⟩ ∧ r.latches.get 2 = ⟨0, true, false⟩ := by decide +kernel

/-- A second and a third loss in a row, a sweep that came back, and a trial that came back in REVERSE. -/
theorem witness_SweepsJudged :
    (∀ x, (swept x).ring.tickOpen = true ∧ (swept x).ring.mode = .forward) ∧
    (∀ l ∈ [(swept none).ring.sweeps, (swept (some (slots true 0#16))).ring.sweeps], ∀ x ∈ l, ∀ y ∈ l,
      x.kind = .regular → y.kind = .regular → x.direction = y.direction → x.returned.isSome = y.returned.isSome) ∧
    (∀ x, (swept x).link.notices.length < 16) ∧ State.reset.ring.lastSettled = none ∧
    ((swept none).mapRing fun r => { r with lossForward := 2 }).ring.lossForward + 1 = 3 ∧
    ((swept none).mapRing fun r => { r with lossForward := 1 }).ring.lossForward + 1 ≠ 3 ∧
    (swept none).pods.snapshot = none ∧ feedOn ((swept none).pods.records.get 0).state = true ∧
    (let s := looped fun r =>
      { r with mode := .reverse, tickOpen := true, sweeps := [aSweep .trial .forward 3 [0, 2] (some (slots true 0#16))] }
     s.ring.tickOpen = true ∧ s.ring.mode = .reverse ∧ TrialBack s.ring ∧ s.ring.lossReverse ≠ 3) :=
  ⟨fun _ => ⟨rfl, rfl⟩, by decide, fun _ => (by decide : 0 < 16), rfl, by decide, by decide, rfl, rfl, rfl, rfl,
    ⟨_, List.mem_singleton.mpr rfl, rfl, rfl⟩, by decide⟩

/-- R34, R36, R38: a trial that came back heals the ring, with one loop switch more and its notice. -/
theorem test_heal :
    let t := after (exec .tickClose (looped fun r =>
      { r with mode := .reverse, lastSettled := some .reverse, tickOpen := true
               sweeps := [aSweep .trial .forward 3 [0, 2] (some (slots true 0#16))] }))
    t.ring.mode = .forward ∧ t.ring.switches = 1 ∧
    t.link.notices.any (fun n => match n.body with | .ring .forward .heal 3 0 _ _ _ => true | _ => false) = true := by
  decide +kernel

/-- R28, R62: the third loss in a row enters SEARCH and latches the snapshot, which shows SEARCH and that loss. -/
theorem test_ring_fault :
    let t := after (exec .tickClose ((swept none).mapRing fun r => { r with lossForward := 2 }))
    t.ring.mode = .search ∧ t.ring.lost = 1 ∧
    t.pods.snapshot.map (fun x => (x.cause, x.position, x.kit.mode, x.kit.lost)) = some (.ringFault, none, .search, 1) := by
  decide +kernel

/-- A tick of a search, its probe returned or not. -/
def probed (phase : SearchPhase) (d : Direction) (turn : Nat) (back : Bool) : State :=
  looped fun r =>
    { r with tickOpen := true, search := phase
             sweeps := [aSweep .probe d turn [0, 2] (if back then some (slots true 0#16) else none)] }

/-- Every row of a search: P_max is 3. -/
theorem witness_SearchAndRetry :
    (∀ x d k back, (probed x d k back).ring.tickOpen = true ∧ (probed x d k back).ring.mode = .search ∧
      (probed x d k back).ring.search = x ∧ (probed x d k back).ring.lossForward ≠ 3 ∧
      (probed x d k back).ring.lossReverse ≠ 3 ∧
      (probed x d k back).ring.sweeps =
        [aSweep .probe d k [0, 2] (if back then some (slots true 0#16) else none)]) ∧
    (probed (.forwardProbe 3) .forward 3 true).pods.pMax = 3 ∧ 2 ≠ 3 ∧ 2 ≤ 2 ∧ 1 ≤ 1 ∧ 2 < 3 ∧ (1 : Nat) = 1 ∧ 3 ≤ 3 ∧ 0 < 2 ∧
    (some (slots true 0#16) ≠ none) :=
  ⟨fun _ _ _ _ => ⟨rfl, rfl, rfl, Nat.noConfusion, Nat.noConfusion, rfl⟩, by decide⟩

/-- R31: a forward turn of 1 and a reverse turn of 3 settle in SPLIT, with position 2 (not enabled) in no set. -/
theorem test_settle_split :
    let r := (after (exec .tickClose (probed (.reverseProbe 1 3) .reverse 3 true))).ring
    r.mode = .split ∧ r.tf = 1 ∧ r.tr = 3 ∧ r.unreachable = Table.replicate 12 false ∧
    r.loopForward.get 1 = true ∧ r.loopReverse.get 1 = true := by decide +kernel

/-- A pod in JOINING at position 3, when the last reverse probe is lost after a forward turn of 1. -/
def stranded : State := (probed (.reverseProbe 1 3) .reverse 3 false).mapPod 2 fun r => { r with state := .joining, retry := 1 }

theorem witness_SearchAndRetry_joining :
    (stranded.pods.records.get 2).state = .joining ∧ stranded.ring.search = .reverseProbe 1 3 ∧
    stranded.ring.sweeps = [aSweep .probe .reverse 3 [0, 2] none] ∧ stranded.pods.pMax = 3 ∧
    (after (exec .tickClose stranded)).ring.unreachable.get 2 = true := by decide +kernel

/-- R49: the settlement in SPLIT without a reverse turn sends the pod at position 3 back to POWERING. -/
theorem test_joining_unreachable :
    let t := after (exec .tickClose stranded)
    t.ring.mode = .split ∧ (t.pods.records.get 2).state = .powering ∧ (t.pods.records.get 2).reasons = 0#8 ∧
    (t.link.notices.getLast?.any fun n =>
      match n.body with | .pod 2 .joining .powering .unreachable 1 _ => true | _ => false) = true := by decide +kernel

theorem witness_SearchAndRetry_retry :
    (let r := (ringed fun r => { r with mode := .down, modeTicks := 10240 }).ring
     r.mode = .down ∧ 10240 ≤ r.modeTicks ∧ r.tickOpen = false) ∧
    (ringed fun r => { r with mode := .down, modeTicks := 10239 }).ring.modeTicks < 10240 ∧
    State.reset.ring.mode ≠ .down := by decide

/-! ## The pods -/

theorem slotSeen_swept (present : Bool) (status : BitVec 16) :
    SlotSeen (swept (some (slots present status))).ring 0 ⟨present, status, [1, 2, 3, 4]⟩ := by
  refine ⟨⟨_, List.mem_singleton.mpr rfl, SweepKind.noConfusion, List.mem_cons_self, nofun⟩, fun x hx _ _ l hl => ?_⟩
  cases List.mem_singleton.mp hx
  cases hl
  rfl

/-- A SPLIT tick whose forward sweep over position 1 came back and whose reverse sweep over position 3 is lost. -/
def halfSwept (present : Bool) : State :=
  (looped fun r =>
    { r with
      mode := .split, tf := 1, tr := 3, tickOpen := true
      sweeps :=
        [aSweep .regular .forward 1 [0] (some (slots present 0#16)), aSweep .regular .reverse 3 [2] none] }).mapPod 0 fun r =>
    { r with state := .active, silence := 3 }

theorem slotSeen_halfSwept (present : Bool) :
    SlotSeen (halfSwept present).ring 0 ⟨present, 0#16, [1, 2, 3, 4]⟩ := by
  refine ⟨⟨_, List.mem_cons_self, SweepKind.noConfusion, List.mem_cons_self, nofun⟩, fun x hx _ hp l hl => ?_⟩
  rcases List.mem_cons.mp hx with rfl | hx
  · cases hl
    rfl
  · cases List.mem_singleton.mp hx
    cases hl

/-- R27, R46, R51: while the other sweep of a SPLIT tick is lost, a covered pod counts its silence, and a present slot ends it. -/
theorem test_half_swept :
    ((after (exec .tickClose (halfSwept true))).pods.records.get 0).silence = 0 ∧
    ((after (exec .tickClose (halfSwept false))).pods.records.get 0).silence = 4 ∧
    (after (exec .tickClose (halfSwept true))).ring.lossReverse = 1 := by decide +kernel

/-- A present slot, one with OVERTEMP and one with INTERNAL, an absent one, a lost sweep, one sweep of two lost, and a pod with
its feed off. -/
theorem witness_ReportsApplied :
    (∀ x, (swept x).ring.tickOpen = true ∧ (swept x).pods.enabled 0 = true) ∧
    (∀ x, ∀ w ∈ (swept x).ring.sweeps, w.kind ≠ .probe) ∧
    (∀ present status, SlotSeen (swept (some (slots present status))).ring 0 ⟨present, status, [1, 2, 3, 4]⟩) ∧
    (∀ present, SlotSeen (halfSwept present).ring 0 ⟨present, 0#16, [1, 2, 3, 4]⟩ ∧ (halfSwept present).ring.tickOpen = true ∧
      (halfSwept present).pods.enabled 0 = true ∧ ∀ w ∈ (halfSwept present).ring.sweeps, w.kind ≠ .probe) ∧
    ((0x1000#16).getLsbD 8 = false ∧ (0x1000#16).getLsbD 9 = false ∧ (0x1000#16).getLsbD 12 = true ∧
      (0x0100#16).getLsbD 8 = true ∧ (0x0200#16).getLsbD 9 = true) ∧
    ((∀ x, feedOn ((swept x).pods.records.get 0).state = true ∧ ((swept x).pods.records.get 0).state = .active) ∧
      feedOn .powering = true ∧ feedOn .mismatch = true ∧ feedOn .latched = false ∧
      ∀ x, (swept x).pods.snapshot = none ∧ ∀ q : Pos, ¬q < 0) ∧
    ((after (exec .tickClose (swept (some (slots true 0x1000#16))))).link.notices.length < 16 ∧
      (after (exec .tickClose (swept (some (slots true 0x0100#16))))).link.notices.length < 16) ∧
    (∀ x ∈ (swept none).ring.sweeps, (0 : Pos) ∈ x.path → x.returned = none) := by
  refine ⟨fun _ => ⟨rfl, rfl⟩, fun x w hw => ?_, slotSeen_swept, fun p => ⟨slotSeen_halfSwept p, rfl, rfl, fun w hw => ?_⟩,
    by decide, ⟨fun _ => ⟨rfl, rfl⟩, rfl, rfl, rfl, fun _ => ⟨rfl, fun q h => absurd h (Nat.not_lt_zero q.val)⟩⟩,
    by decide +kernel, by decide⟩
  · cases List.mem_singleton.mp hw
    exact SweepKind.noConfusion
  · rcases List.mem_cons.mp hw with rfl | hw
    · exact SweepKind.noConfusion
    · cases List.mem_singleton.mp hw
      exact SweepKind.noConfusion

/-- The report of a probe: a present slot of a pod in POWERING while the search goes on and of one in JOINING that a settlement
reaches, an absent slot, and a lost probe. -/
def probeReport (phase : SearchPhase) (x : PodState) (slot : Option (List Slot)) : State :=
  (looped fun r => { r with tickOpen := true, search := phase, sweeps := [aSweep .probe .forward 3 [0, 2] slot] }).mapPod 0 fun r =>
    { r with state := x }

theorem witness_ReportsApplied_probe :
    (∀ f x y, (probeReport f x y).ring.tickOpen = true ∧ (probeReport f x y).pods.enabled 0 = true ∧
      (probeReport f x y).ring.sweeps = [aSweep .probe .forward 3 [0, 2] y] ∧
      ((probeReport f x y).pods.records.get 0).state = x) ∧
    ((0 : Pos) ∈ (aSweep .probe .forward 3 [0, 2] none).path ∧ feedOn .powering = true ∧ feedOn .joining = true) ∧
    (∀ b st, (slots b st)[(0 : Pos).val]? = some ⟨b, st, [1, 2, 3, 4]⟩) ∧
    ((after (exec .tickClose (probeReport (.forwardProbe 2) .powering (some (slots true 0x0400#16))))).ring.mode = .search ∧
      (after (exec .tickClose (probeReport (.forwardProbe 3) .joining (some (slots true 0#16))))).ring.unreachable.get 0 =
        false) ∧
    ((0x0400#16).getLsbD 10 = true ∧ PodRecord.reset.fault.getLsbD 10 = false ∧ (0#16).getLsbD 10 = false) := by
  refine ⟨fun _ _ _ => ⟨rfl, rfl, rfl, rfl⟩, by decide, fun _ _ => rfl, by decide +kernel⟩

/-- R27, R46: a probe's present slot brings a pod in POWERING to JOINING and its SUPPLY_LOW a notice of that cause. -/
theorem test_probe_report :
    let t := after (exec .tickClose (probeReport (.forwardProbe 2) .powering (some (slots true 0x0400#16))))
    (t.pods.records.get 0).state = .joining ∧ (t.pods.records.get 0).fault = 0x0400#16 ∧
    (t.pods.records.get 0).powering = 0 ∧
    (t.link.notices.head?.any fun n =>
      match n.body with | .pod 0 .powering .powering .supplyLow 0 _ => true | _ => false) = true := by decide +kernel

/-- R46, R52, R62: an OVERTEMP report switches an ACTIVE pod off, with its off timer of 2,000 ms, 20,480 ticks, and the snapshot
shows it ACTIVE with its fault word. -/
theorem test_overtemp :
    let t := after (exec .tickClose (swept (some (slots true 0x0100#16))))
    let r := t.pods.records.get 0
    r.state = .off .offTime .policy ∧ r.lastReason = some .overtemp ∧ r.history = 0x0100#16 ∧ r.reasons = 0x04#8 ∧
    r.timer = some ⟨0, 20480⟩ ∧
    t.pods.snapshot.map (fun x => (x.cause, x.position, (x.kit.pods.get 0).state, (x.kit.pods.get 0).fault)) =
      some (.pod .overtemp, some 0, .active, 0x0100#16) := by decide +kernel

/-- R39, R46, R50: a report that shows UNJOINED has an ACTIVE pod join again; the free slot takes the first of its five reads. -/
theorem test_unjoined :
    let t := after (exec .tickClose (swept (some (slots true 0x1000#16))))
    (t.pods.records.get 0).state = .joining ∧ t.ring.request = some (joinTransaction ⟨0, 0⟩ 0) ∧
    t.pods.joins = [⟨0, 1⟩, ⟨0, 2⟩, ⟨0, 3⟩, ⟨0, 4⟩] ∧
    t.link.notices.any (fun n => match n.body with | .pod 0 .active .joining .rejoin _ _ => true | _ => false) = true := by
  decide +kernel

/-- The powering count at 20,480 and one below, the silence count at the entry's limit of 16 and one below. -/
theorem witness_FatalTimersSwitchOff :
    (∀ r, (podded r).pods.records.get 0 = r ∧ (podded r).ring.tickOpen = false ∧ (podded r).pods.snapshot = none) ∧
    (20480 ≤ { inPodState .powering with powering := 20480 }.powering ∧
      { inPodState .powering with powering := 20479 }.powering < 20480) ∧
    ((((podded (inPodState .active)).pods.table.get 0).elim 16 fun e => e.silence) ≤
        { inPodState .active with silence := 16 }.silence ∧
      { inPodState .active with silence := 15 }.silence <
        (((podded (inPodState .active)).pods.table.get 0).elim 16 fun e => e.silence)) := by
  refine ⟨fun r => ⟨Table.get_set_self _ _ _, rfl, rfl⟩, by decide, by decide⟩

/-- The off timer and the drained wait at their lengths and one below, the input asserted and not, and the snapshot empty and
latched. -/
theorem witness_OffSequenceRuns :
    (∀ r, (podded r).pods.records.get 0 = r ∧ (podded r).ring.tickOpen = false ∧ (podded r).pods.drained.get 0 = false ∧
      (podded r).pods.snapshot = none) ∧
    { inPodState (.off .offTime .policy) with timer := some ⟨20480, 20480⟩ }.timer = some ⟨20480, 20480⟩ ∧ 20480 ≤ 20480 ∧
    (∀ x ∈ { inPodState (.off .offTime .policy) with timer := some ⟨20479, 20480⟩ }.timer, x.elapsed < x.length) ∧
    ((podded (inPodState (.off .offTime .policy))).mapPods fun x =>
      { x with drained := x.drained.set 0 true }).pods.drained.get 0 = true ∧
    (inPodState (.off .drainWait .commanded)).state = .off .drainWait .commanded ∧
    { inPodState (.off .drainWait .release) with timer := some ⟨51200, 51200⟩ }.timer = some ⟨51200, 51200⟩ ∧
    (∀ x ∈ { inPodState (.off .drainWait .release) with timer := some ⟨51199, 51200⟩ }.timer, x.elapsed < x.length) ∧
    (after (exec .tickClose ((swept none).mapRing fun r => { r with lossForward := 2 }))).pods.snapshot ≠ none := by
  refine ⟨fun r => ⟨Table.get_set_self _ _ _, rfl, rfl, rfl⟩, by decide, by decide, by decide, by decide, by decide, by decide,
    by decide, by decide +kernel⟩

/-- R54: the drained input ends the wait of a POLICY sequence with one more power-up counted, of a RELEASE one without. -/
theorem test_drained :
    (after (exec (.feedDrained 0 true) (podded (inPodState (.off .drainWait .policy))))).pods.records.get 0 =
      { inPodState .powering with retry := 1 } ∧
    ((after (exec (.feedDrained 0 true) (podded { inPodState (.off .drainWait .policy) with retry := 2 }))).pods.records.get 0).timer =
      some ⟨0, 307200⟩ := by decide +kernel

/-- The cooldown at its length and one below, the quiet period of code 0 at its length and one below. -/
theorem witness_OffSequenceRuns_timers :
    (∀ r, (podded r).pods.records.get 0 = r ∧ (podded r).ring.tickOpen = false) ∧
    { inPodState .cooldown with timer := some ⟨307200, 307200⟩ }.timer = some ⟨307200, 307200⟩ ∧
    (∀ x ∈ { inPodState .cooldown with timer := some ⟨307199, 307200⟩ }.timer, x.elapsed < x.length) ∧
    ((podded (inPodState .active)).pods.table.get 0).elim 0 (fun e => e.quiet) = 0 ∧
    { inPodState .active with quiet := some 307200 }.quiet = some 307200 ∧
    (∀ q ∈ { inPodState .active with quiet := some 307199 }.quiet, q < 307200) ∧ 2 < anEntry.quiet + 3 := by
  refine ⟨fun r => ⟨Table.get_set_self _ _ _, rfl⟩, by decide⟩

/-- Locked; index 0 and above the last; a fault and none; each row of R43; and a load that moves P_max. -/
theorem witness_LoadPodActs :
    Takes (inState .closing 5) 1 (.loadPod 1 none) (inState .closing 5) ∧ (inState .closing 5).survey.state ≠ .closed ∧
    (∀ k f, Takes State.reset 1 (.loadPod k f) State.reset) ∧ 12 < 13 ∧ 12 = (11 : Pos).val + 1 ∧
    podFault { aPod with offTime := 99 } = some (.badValue, 5) ∧ podFault { aPod with offTime := 100 } = none ∧
    (State.reset.pods.enabled 0 = false ∧ aPod.enable = 1 ∧ { aPod with enable := 2 }.enable ≠ 1) ∧
    (∀ r k f, Takes (podded r) 1 (.loadPod k f) (podded r) ∧ (podded r).pods.enabled 0 = true) ∧
    (after (exec (.loadPod 1 1 (some aPod)) State.reset)).pods.pMax ≠ State.reset.pods.pMax ∧
    (after (exec (.loadPod 1 1 (some aPod)) (podded (inPodState .joining)))).pods.pMax =
      (podded (inPodState .joining)).pods.pMax :=
  ⟨atOnce rfl _ _, by decide, fun _ _ => atOnce rfl _ _, by decide, by decide, by decide, by decide, by decide,
    fun _ _ _ => ⟨atOnce rfl _ _, rfl⟩, by decide +kernel, by decide +kernel⟩

/-- R32, R43, R61: a position enabled beyond the forward turn of a settled SPLIT is unreachable; its POD notice of cause TABLE
goes before the RING notice of the search. -/
theorem test_loadPod_unreachable :
    let t := after (exec (.loadPod 1 3 (some aPod))
      (ringed fun r => { r with mode := .split, lastSettled := some .split, tf := 1, tr := 0 }))
    t.ring.unreachable.get 2 = true ∧
    (t.link.notices.map fun n =>
      match n.body with
      | .pod 2 .disabled .powering .table 0 _ => 1 | .ring .search .table 1 0 _ _ _ => 2 | _ => 0) = [1, 2] := by
  decide +kernel

/-- R43: a position that becomes enabled is powered, and the change of P_max begins a search. -/
theorem test_loadPod :
    let t := after (exec (.loadPod 1 3 (some aPod)) (ringed fun r => { r with mode := .forward }))
    (t.pods.records.get 2).state = .powering ∧ t.pods.pMax = 3 ∧ t.ring.mode = .search := by decide +kernel

/-- The operands at and just outside their ranges, a pod that is away, a slot that is taken, and a free one. -/
theorem witness_PodDirectivesAct :
    (∀ r d, Takes (podded r) 1 d (podded r)) ∧ 12 < 13 ∧ 63 < 64 ∧ 65535 < 65536 ∧ 1 = (0 : Pos).val + 1 ∧ 63 ≤ 63 ∧
    ((podded (inPodState .joining)).pods.records.get 0).state ≠ .active ∧
    (((podded (inPodState .active)).pods.records.get 0).state = .active ∧
      (podded (inPodState .active)).ring.unreachable.get 0 = false ∧
      (podded (inPodState .active)).ring.request = none) ∧
    (Takes ((podded (inPodState .active)).mapRing fun r => { r with request := some (aHost .read 0 1) }) 1 (.podRead 1 63)
        ((podded (inPodState .active)).mapRing fun r => { r with request := some (aHost .read 0 1) }) ∧
      ((podded (inPodState .active)).mapRing fun r => { r with request := some (aHost .read 0 1) }).ring.request ≠ none) ∧
    (Takes (inState .opened 5) 1 (.podWrite 1 4 0) (inState .opened 5) ∧ 1 ≤ 4 ∧ 4 ≤ 4 ∧
      (inState .opened 5).survey.state ≠ .closed) :=
  ⟨fun _ _ => atOnce rfl _ _, by decide, by decide, by decide, by decide, by decide, by decide, by decide,
    ⟨atOnce rfl _ _, by decide⟩, ⟨atOnce rfl _ _, by decide⟩⟩

/-- Positions just outside, a pod that may not be cycled, one that may, and a LATCHED one with its input clear and set. -/
theorem witness_PodDirectivesAct_cycle :
    (∀ r d, Takes (podded r) 1 d (podded r) ∧ (podded r).pods.records.get 0 = r ∧ (podded r).pods.drained.get 0 = false) ∧
    12 < 13 ∧ 1 = (0 : Pos).val + 1 ∧ (inPodState .disabled).state = .disabled ∧ (inPodState .active).state ≠ .disabled ∧
    (inPodState .active).state ≠ .latched ∧ (inPodState .latched).state = .latched ∧
    (let s := (podded (inPodState .latched)).mapPods fun x => { x with drained := x.drained.set 0 true }
     Takes s 1 (.podRelease 1) s ∧ s.pods.drained.get 0 = true) := by
  refine ⟨fun r d => ⟨atOnce rfl _ _, Table.get_set_self _ _ _, rfl⟩, by decide, by decide, by decide, by decide, by decide,
    by decide, atOnce rfl _ _, by decide⟩

/-- R39, R56: POD-CYCLE withdraws the join in the slot, which takes the next one waiting, and offers its notice. -/
theorem test_pod_cycle :
    let s := ((podded (inPodState .joining)).mapRing fun r => { r with request := some (aJoin .joinRead 0 5) }).mapPods fun x =>
      { x with joins := [⟨0, 1⟩, ⟨1, 2⟩] }
    let t := after (exec (.podCycle 1 1) s)
    t.ring.request.map (fun x => (x.target, x.parameter)) = some (1, 2) ∧ t.pods.joins = [] ∧
    t.link.notices.any (fun n =>
      match n.body with | .pod 0 .joining (.off .offTime .commanded) .commanded _ _ => true | _ => false) = true := by
  decide +kernel

/-- An empty snapshot and a latched one. -/
theorem witness_TableKitAndSnapshotRead_kit :
    (∀ d, Takes State.reset 1 d State.reset) ∧ State.reset.pods.snapshot = none ∧
    (State.reset.mapPods fun x =>
      { x with snapshot := some ⟨State.reset.kit, .ringFault, none, 4⟩ }).pods.snapshot =
      some ⟨State.reset.kit, .ringFault, none, 4⟩ := ⟨fun _ => atOnce rfl _ _, rfl, rfl⟩

/-- The kit report is 284 bytes long (10 "The kit report"). -/
theorem test_kit_length :
    (after (exec (.readKit 1) State.reset)).link.replies.map (fun r => r.data.length) = [284] := by decide +kernel

/-! ## The cycle trackers -/

/-- Group 1 of 50 Hz with its debounce of 4, tracked as given at the close of tick 503: the decision tick is 500. -/
def tracked (x : Tracker) : State :=
  ((inState .opened 503).mapSurvey fun y => { y with groups := y.groups.set 0 (some aGroup) }).mapTrackers fun y =>
    y.set 0 x

def dueTracker (kind : DueKind) : Tracker :=
  { Tracker.reset with
    state := .locked, due := some kind, last := some ⟨398, .rising, .crossing⟩, history := List.replicate 8 102
    period := 1632, flywheelCount := 4 }

/-- R71: a nominal half-period of 1,638 sixteenths with the residue 6 gives a length of 102 samples and the residue 12. -/
theorem test_timed_lengths :
    let x := ((after (exec (.timedBoundary 0) (tracked { dueTracker .timed with period := 1638, residue := 6 }))).trackers.get 0)
    x.nextLength = 102 ∧ x.residue = 12 ∧ x.last = some ⟨500, .falling, .timed⟩ := by decide +kernel

/-- R79, R86, R91: a TIMED boundary reaches the Event Detector: four silent voltages start an event, and the half-cycle begins
anew. -/
theorem test_boundary_announced :
    let s := (((filled [6]).mapSurvey fun x => { x with tick := 503 }).mapTrackers fun x => x.set 0 (dueTracker .timed)).mapEvents
      fun x => { x with groups := x.groups.set 0 { GroupEvents.reset with members := List.replicate 4 ⟨0, 3, true, .normal⟩ } }
    let g := (after (exec (.timedBoundary 0) s)).events.groups.get 0
    g.machine = .active ∧ g.members = List.replicate 4 ⟨0, 0, false, .interruption⟩ := by decide +kernel

theorem witness_DueBoundariesPlaced :
    (tracked (dueTracker .timed)).survey.groups.get 0 = some aGroup ∧
    ((tracked (dueTracker .timed)).trackers.get 0).due = some .timed ∧
    ((tracked (dueTracker .timed)).trackers.get 0).last = some ⟨398, .rising, .crossing⟩ ∧
    State.reset.survey.groups.get 0 = none ∧ ((tracked (dueTracker .wheel)).trackers.get 0).due ≠ some .timed := by
  decide +kernel

/-- The flywheel limit of 50 above the count, reached by it, and a limit of 1 that FORCED reaches at once. -/
theorem witness_DueBoundariesPlaced_flywheel :
    (∀ x, (tracked x).survey.groups.get 0 = some aGroup ∧ (tracked x).trackers.get 0 = x) ∧
    (dueTracker .forced).last = some ⟨398, .rising, .crossing⟩ ∧ (dueTracker .forced).due = some .forced ∧
    (dueTracker .wheel).due = some .wheel ∧ 1 < aGroup.flywheel ∧ { aGroup with flywheel := 1 }.flywheel ≤ 1 ∧
    min ((dueTracker .wheel).flywheelCount + 1) 255 < aGroup.flywheel ∧
    aGroup.flywheel ≤ min ({ dueTracker .wheel with flywheelCount := 49 }.flywheelCount + 1) 255 ∧
    (dueTracker .forced).due ≠ some .wheel := by
  refine ⟨fun x => ⟨by simp [tracked, inState], by simp [tracked]⟩, by decide⟩

/-- R80 (entry 50): the first rising boundary after the origin closes no cycle; the second closes the one that began at the
first. -/
theorem test_first_cycle :
    let x := (Tracker.reset.place 1 .rising .origin).place 103 .falling .timed
    let y := (x.place 205 .rising .timed).place 307 .falling .timed
    cycleStart .rising x.last x.before = none ∧ cycleStart .rising y.last y.before = some 205 := by decide

/-- R81: 1,636 and 1,638 sixteenths of a sample are 50.073 Hz and 50.012 Hz. -/
theorem test_frequency : frequency 1636 = 50073 ∧ frequency 1638 = 50012 := by decide

theorem resetPeriodBounds : PeriodBounds State.reset where
  trackers n := by
    rw [show State.reset.trackers.get n = Tracker.reset from Table.get_replicate _ n]
    constructor <;> decide
  exponents n g h := by
    rw [show State.reset.survey.groups.get n = none from Table.get_replicate _ n] at h
    cases h

theorem witness_PeriodBoundsKept :
    PeriodBounds State.reset ∧ ∃ t, step { State.reset with pending := [.tickStart] } = .next t :=
  ⟨resetPeriodBounds, _, rfl⟩


/-! ## Sag capture -/

/-- Locked; index 0 and above the last; the last index with a fault of range, one of ordering, and none. -/
theorem witness_ProfileAndBinLoads :
    Takes (inState .closing 5) 1 (.loadProfile 1 none) (inState .closing 5) ∧ (inState .closing 5).survey.state ≠ .closed ∧
    (∀ k f, Takes State.reset 1 (.loadProfile k f) State.reset) ∧ State.reset.survey.state = .closed ∧ 8 < 9 ∧
    8 = (7 : Fin 8).val + 1 ∧ profileFault { aProfile with intEnter := 0 } = some (.badValue, 1) ∧
    profileFault { aProfile with sagExit := 10001 } = some (.badTable, 4) ∧ profileFault aProfile = none ∧
    profileFault { aProfile with sagExit := 10000, swellExit := 10000 } = none :=
  ⟨atOnce rfl _ _, by decide, fun _ _ => atOnce rfl _ _, rfl, by decide⟩

/-- R87: a sum of squares of 20,400,000,000 over 102 samples has the mean square 200,000,000 and the root 14,142. -/
theorem witness_ResidualsAndConditions :
    0 < 102 ∧ 0 < 14000 ∧ 14142 * 14142 ≤ 20400000000 / 102 ∧ 20400000000 / 102 < (14142 + 1) * (14142 + 1) ∧
    0 < 204 ∧ 320000 * 320000 ≤ ((66846720000 : Int).tdiv (204 * 1024)).natAbs * ((66846720000 : Int).tdiv (204 * 1024)).natAbs ∧
    ((66846720000 : Int).tdiv (204 * 1024)).natAbs * ((66846720000 : Int).tdiv (204 * 1024)).natAbs <
      (320000 + 1) * (320000 + 1) := by decide

/-- The worked residuals and amplitudes of 05 and 06. -/
theorem test_residual_and_amplitude :
    residual 20400000000 102 14000 = 10101 ∧ residual 6528000000 102 14000 = 5714 ∧
    h16 204 66846720000 0 = 320000 ∧ h16 204 2005401600 (-1504051200) = 12000 := by decide +kernel

/-- A CROSSING boundary that ends a tracked half-cycle of 100 samples. -/
def aBoundary (t : Nat) : Boundary :=
  ⟨t, .falling, .crossing, false, some 100, ⟨true, false, false, false, false⟩, none, .locked, 1600⟩

/-- A member of nominal code 10,000 in a condition, whose next half-cycle of 100 samples has the residual `u`. -/
def aMember (c : Condition) (u gaps : Nat) : MemberState := ⟨100 * u * u, gaps, false, c⟩

def judged (c : Condition) (u gaps : Nat) : Evaluation := evaluate aProfile (aBoundary 100) 100 ⟨0, 1, 10000⟩ (aMember c u gaps)

/-- A SHORT half-cycle, gaps at a quarter and one above, each row of the table, and each way out of INTERRUPTION and SAG. -/
theorem witness_ResidualsAndConditions_conditions :
    (aBoundary 100).flags.short = false ∧
    { aBoundary 100 with flags := ⟨true, false, false, false, true⟩ }.flags.short = true ∧
    (aMember .normal 9999 26).gaps = 100 / 4 + 1 ∧ (aMember .normal 9999 25).gaps ≤ 100 / 4 ∧ profileFault aProfile = none ∧
    (∀ c u gaps, (aMember c u gaps).condition = c) ∧
    residual (aMember .interruption 1500 0).sum 100 10000 = aProfile.intExit ∧ aProfile.intExit < aProfile.sagExit ∧
    residual (aMember .sag 9200 0).sum 100 10000 = aProfile.sagExit ∧ aProfile.sagExit ≤ aProfile.swellEnter ∧
    residual (aMember .sag 11001 0).sum 100 10000 = aProfile.swellEnter + 1 := by
  refine ⟨rfl, rfl, rfl, by decide, by decide, fun _ _ _ => rfl, ?_⟩
  decide +kernel

/-- R88, R89: each threshold, from each side, and the CLIPPED mark. -/
theorem test_conditions :
    (judged .normal 999 0).after = .interruption ∧ (judged .normal 1000 0).after = .sag ∧
    (judged .interruption 1499 0).after = .interruption ∧ (judged .interruption 1500 0).after = .sag ∧
    (judged .normal 9000 0).after = .normal ∧ (judged .sag 9199 0).after = .sag ∧ (judged .sag 9200 0).after = .normal ∧
    (judged .normal 11000 0).after = .normal ∧ (judged .normal 11001 0).after = .swell ∧
    (judged .swell 10801 0).after = .swell ∧ (judged .swell 10800 0).after = .normal ∧
    (judged .normal 999 26).after = .normal ∧
    (evaluate aProfile (aBoundary 100) 100 ⟨0, 1, 10000⟩ { aMember .normal 999 25 with clip := true }).clipped = true ∧
    (evaluate aProfile (aBoundary 100) 100 ⟨0, 1, 10000⟩ { aMember .normal 999 26 with clip := true }).clipped = false := by
  decide +kernel

/-- A boundary at tick `t` after 100 samples, with one member evaluated as given. -/
def boundaryWork (post t : Nat) (before after : Condition) (u : Option Nat) : BoundaryWork :=
  ⟨{ aProfile with post := post }, 1, [⟨1, before, after, u, false⟩], aBoundary t, 100⟩

/-- A group in a state of the event machine, with an event that began at tick 100. -/
def inMachine (x : MachineState) (e : Event) : GroupEvents := { GroupEvents.reset with machine := x, event := some e }

/-- A member that leaves NORMAL, every member NORMAL, a member still in SAG and a withheld half-cycle; the last sag number and
the one before; the maximum length of 60 s and a tick below; the last post half-cycle and one before; a CUT event; a recorded
event whose number an OPEN entry of a rising list holds. -/
theorem witness_EventMachineMoves :
    (∀ x e, (inMachine x e).machine = x ∧ (inMachine x e).event = some e) ∧
    (∃ e ∈ (boundaryWork 16 300 .normal .sag (some 5000)).evaluations, e.leavesNormal = true) ∧
    (∀ b c u, ∀ e ∈ (boundaryWork 16 300 b c u).evaluations, b ≠ .normal → e.leavesNormal ≠ true) ∧
    ((∃ e ∈ (boundaryWork 16 300 .sag .normal (some 10000)).evaluations, e.u ≠ none) ∧
      ∀ e ∈ (boundaryWork 16 300 .sag .normal (some 10000)).evaluations, e.after = .normal) ∧
    ¬(∃ e ∈ (boundaryWork 16 300 .normal .normal none).evaluations, e.u ≠ none) ∧
    ¬(∀ e ∈ (boundaryWork 16 300 .sag .sag (some 5000)).evaluations, e.after = .normal) ∧
    (4294967294 < 4294967295 ∧ 4294967295 ≤ 4294967295) ∧
    (aProfile.maxSeconds * 10240 ≤ (boundaryWork 16 614500 .sag .sag (some 5000)).boundary.tick - anEvent.start ∧
      (boundaryWork 16 614499 .sag .sag (some 5000)).boundary.tick - anEvent.start < aProfile.maxSeconds * 10240) ∧
    ((boundaryWork 0 300 .sag .normal none).profile.post = 0 ∧ (boundaryWork 16 300 .sag .normal none).profile.post ≠ 0) ∧
    { anEvent with postLeft := 1 }.postLeft ≤ 1 ∧ 2 ≤ { anEvent with postLeft := 2 }.postLeft ∧
    ({ anEvent with flags := { noEventFlags with cut := true } }.flags.cut = true ∧ anEvent.flags.cut = false) ∧
    (anEvent.recorded = true ∧ anEvent.number = some 1 ∧ 1 ≤ { Events.reset with lastSag := 1 }.lastSag ∧
      ([aSag .opened].Pairwise fun a b => a.number < b.number) ∧ (aSag .opened).number = 1 ∧
      (aSag .opened).status = .opened) := by
  refine ⟨fun _ _ => ⟨rfl, rfl⟩, by decide, fun b c u e he hb => ?_, by decide⟩
  cases List.mem_singleton.mp he
  cases b <;> simp_all [Evaluation.leavesNormal]

/-- R97, R99: in POST at tick 300 a member leaves NORMAL: entry 1 is UNSENT with POST_SHORT, the first of a burst that event 2
joins with its OPEN entry. -/
theorem test_event_closes_window :
    let g := { inMachine .post { anEvent with stop := some 200, postLeft := 9 } with burst := ⟨none, 0, some 200, some 1⟩ }
    let t := machineBoundary ⟨0, [1], [⟨0, 1, 10000⟩]⟩ (boundaryWork 16 300 .normal .sag (some 5000))
      (g, { Events.reset with sags := [⟨1, .opened, [], [], 0, 0⟩], lastSag := 1 })
    (t.2.sags.map fun y =>
      match y.status with
      | .unsent false r => (y.number, r.flags.postShort, r.burst) | _ => (y.number, false, none)) =
      [(1, true, some (1, 1)), (2, false, none)] ∧
    t.1.event.map (fun e => (e.number, e.burst)) = some (some 2, some (1, 2)) := by decide +kernel

/-- R100: the span of an event that ends at tick 300 joins the completed ones, and the oldest of five leaves. -/
theorem test_span_closes :
    (machineBoundary ⟨0, [1], [⟨0, 1, 10000⟩]⟩ (boundaryWork 16 300 .sag .normal (some 10000))
      ({ inMachine .active anEvent with span := ⟨some 100, [(1, 2), (3, 4), (5, 6), (7, 8)]⟩ }, Events.reset)).1.span =
      ⟨none, [(3, 4), (5, 6), (7, 8), (100, 300)]⟩ := by decide +kernel

/-- An event in ACTIVE whose boundary leaves it there, and one whose boundary ends it with no post window; a fresh event, also
after an event in POST that is not CUT; a POST half-cycle; and a member with no extremes, with extremes, and withheld. -/
theorem witness_EventUpdates :
    let id : GroupId := ⟨0, [1], [⟨0, 1, 10000⟩]⟩
    let step (w : BoundaryWork) (x : MachineState) (e : Event) :=
      machineBoundary id w (inMachine x e, { Events.reset with sags := [aSag .opened], lastSag := 1 })
    (step (boundaryWork 16 300 .sag .sag (some 5000)) .active anEvent).1.event.isSome = true ∧
    ((step (boundaryWork 0 300 .sag .normal (some 10000)) .active anEvent).1.event = none ∧ anEvent.recorded = true ∧
      anEvent.number = some 1 ∧
      ((step (boundaryWork 0 300 .sag .normal (some 10000)) .active anEvent).2.sags.map fun y => y.number) = [1]) ∧
    ((inMachine .quiet anEvent).machine = .quiet ∧ (inMachine .post anEvent).machine = .post ∧ anEvent.flags.cut = false ∧
      ∃ e ∈ (boundaryWork 16 300 .normal .sag (some 5000)).evaluations, e.leavesNormal = true) ∧
    ((step (boundaryWork 16 300 .normal .normal (some 10000)) .post { anEvent with postLeft := 2 }).1.event.isSome = true ∧
      ¬∃ e ∈ (boundaryWork 16 300 .normal .normal (some 10000)).evaluations, e.leavesNormal = true) ∧
    (anEvent.extremes[0]? = some none ∧ { anEvent with extremes := [some (4000, 6000)] }.extremes[0]? = some (some (4000, 6000)) ∧
      (boundaryWork 16 300 .sag .sag none).evaluations[0]? = some ⟨1, .sag, .sag, none, false⟩) ∧
    (anEvent.involved.Pairwise (· < ·) ∧ anEvent.capture.bodyHalves ≤ aProfile.body * 2) := by
  decide +kernel

/-- R93: a sag half-cycle of 5,000 in ACTIVE widens the extremes, counts one half-cycle more and sets the sag mark. -/
theorem test_event_updates :
    let t := machineBoundary ⟨0, [1], [⟨0, 1, 10000⟩]⟩ (boundaryWork 16 300 .sag .sag (some 5000))
      (inMachine .active { anEvent with extremes := [some (5200, 6000)] }, Events.reset)
    t.1.event.map (fun e => (e.extremes, e.involved, e.halves, e.sagMark)) = some ([some (5000, 6000)], [1], 2, true) := by
  decide +kernel

/-- R91, R92: the half-cycle that leaves NORMAL at tick 300 starts event 1 at tick 200. -/
theorem test_event_starts :
    let t := machineBoundary ⟨0, [1], [⟨0, 1, 10000⟩]⟩ (boundaryWork 16 300 .normal .sag (some 5000)) (GroupEvents.reset, Events.reset)
    t.1.machine = .active ∧ t.1.event.map (fun e => (e.number, e.start, e.halves)) = some (some 1, 200, 1) := by
  decide +kernel

/-- The sag list with one entry, and the record queue filled to a length. -/
def sagged (status : SagStatus) (at? : Option Emission) (queued : Nat) : State :=
  (State.reset.mapEvents fun x => { x with sags := [aSag status], unrecorded := 2, emission := at? }).mapLink fun l =>
    { l with records := List.replicate queued (.sag aSagRecord false) }

/-- Nothing unsent; the record frame and the last capture frame of an entry; a queue with one place and a full one. -/
theorem witness_SagsEmittedAndRepeated :
    (sagged (.sent aSagRecord) none 0).events.emission = none ∧
    (∀ e ∈ (sagged (.sent aSagRecord) none 0).events.sags, e.status = .sent aSagRecord) ∧
    (∀ x n, (sagged (.unsent false aSagRecord) x n).events.emission = x ∧
      (sagged (.unsent false aSagRecord) x n).events.sags = [aSag (.unsent false aSagRecord)] ∧
      (sagged (.unsent false aSagRecord) x n).link.records.length = n) ∧
    ([aSag (.unsent false aSagRecord)].find? (fun x => decide (x.number = 1))).isSome = true ∧
    (aSag (.unsent false aSagRecord)).status = .unsent false aSagRecord ∧ 31 < 32 ∧
    1 + 2 * (((aSag (.unsent false aSagRecord)).rows.length + 239) / 240) ≤ 4 + 1 :=
  ⟨rfl, fun _ h => by cases List.mem_singleton.mp h; rfl, fun _ n => ⟨rfl, rfl, List.length_replicate⟩, by decide +kernel, rfl,
    by decide, by decide +kernel⟩

/-- R15, R110: the record goes first with the unrecorded count, the entry is SENT with the last capture frame, and CLOSING ends
with its notice. -/
theorem test_sag_emission :
    (after (exec .sagRecordEmit (sagged (.unsent false aSagRecord) none 0))).link.records =
      [.sag { aSagRecord with lostBefore := 2 } false] ∧
    (after (exec .sagRecordEmit (sagged (.unsent false aSagRecord) (some ⟨1, 4⟩) 0))).link.records =
      [.capture 1 2 240 [4]] ∧
    ((after (exec .sagRecordEmit (sagged (.unsent false aSagRecord) (some ⟨1, 4⟩) 0))).events.sags.map
      fun e => e.status) = [.sent aSagRecord] ∧
    (after (exec .sagRecordEmit ((sagged (.unsent false aSagRecord) (some ⟨1, 4⟩) 0).mapSurvey fun x =>
      { x with state := .closing, number := some 7, tick := 9 }))).link.notices =
      [⟨9, .survey .closed (some 7) .drained⟩] := by decide +kernel

/-- Number 0, a number not retained, an UNSENT entry and a SENT one. -/
theorem witness_SagsEmittedAndRepeated_repeated :
    (∀ x n, Takes ((State.reset.mapEvents fun y => { y with sags := [aSag x] })) 1 (.readSag n)
      (State.reset.mapEvents fun y => { y with sags := [aSag x] })) ∧
    (∀ e ∈ [aSag (.sent aSagRecord)], decide (e.number = 2) = false) ∧
    (∀ e ∈ [aSag .opened], decide (e.status ≠ .opened) = false) ∧
    (∀ x, x ≠ .opened → [aSag x].find? (fun e => decide (e.number = 1) && decide (e.status ≠ .opened)) = some (aSag x)) ∧
    (aSag (.unsent true aSagRecord)).status = .unsent true aSagRecord ∧ (aSag (.sent aSagRecord)).status = .sent aSagRecord := by
  refine ⟨fun _ _ => atOnce rfl _ _, by decide, by decide, fun x h => ?_, rfl, rfl⟩
  simp [aSag, h]

/-! ## Harmonic records -/

/-- Locked; index 0 and above the last; a fault and none; and the READ-TABLE that follows an accepted load. -/
theorem witness_ProfileAndBinLoads_bins :
    Takes (inState .opened 5) 1 (.loadBins 1 none) (inState .opened 5) ∧ (inState .opened 5).survey.state ≠ .closed ∧
    (∀ k f, Takes State.reset 1 (.loadBins k f) State.reset) ∧ State.reset.survey.state = .closed ∧ 4 < 5 ∧
    4 = (3 : Fin 4).val + 1 ∧ binFault { aBinSet with orders := [3, 5, 5] } = some (.badTable, 1) ∧
    binFault { aBinSet with limits := [1] } = some (.badTable, 2) ∧ binFault aBinSet = none ∧
    (let v := replied 1 0x04 .ok [4]
      { State.reset with harmonics := { State.reset.harmonics with binSets := State.reset.harmonics.binSets.set 3 (some aBinSet) } }
     Takes v 2 (.readTable 4 4) v) :=
  ⟨atOnce rfl _ _, by decide, fun _ _ => atOnce rfl _ _, rfl, by decide, by decide, by decide, by decide, by decide,
    takes_at_once _ _ (by decide) rfl⟩

/-- One analysed member after some cycles of a block, of which some were valid for it. -/
def inBlock (cycles valid : Nat) (touched : Bool) : GroupHarmonics :=
  { GroupHarmonics.reset with block := ⟨[[40, 10]], [valid], cycles, touched⟩, interval := ⟨[[0, 0]], 1, 1, 0, 0, some 7⟩ }

def aCycle : PendingCycle := ⟨100, 304, [some [4, 2]]⟩

/-- The eighth cycle and the seventh of a block of eight; the half of its length valid, and one fewer; and a marked block. -/
theorem witness_BlocksClassified :
    { aBinSet with blockLength := 8 }.blockLength ≤ (inBlock 7 3 false).block.cycles + 1 ∧
    ¬{ aBinSet with blockLength := 8 }.blockLength ≤ (inBlock 6 3 false).block.cycles + 1 ∧
    (inBlock 7 3 true).block.event = true ∧ (inBlock 7 3 false).block.event = false ∧ (8 + 1) / 2 ≤ 3 + 1 ∧ ¬(8 + 1) / 2 ≤ 2 + 1 := by
  decide

/-- R123: a used block adds the root of each mean square, squared. -/
theorem test_block :
    let y := (inBlock 7 3 false).addCycle { aBinSet with orders := [3], limits := [200], blockLength := 8 } aCycle false
    y.interval = ⟨[[9, 1]], 2, 2, 0, 0, some 7⟩ ∧ y.block.cycles = 0 := by decide +kernel

/-- An interval list of one entry, and the record queue filled to a length. -/
def recorded (done : Bool) (at? : Option Emission) (queued : Nat) : State :=
  (State.reset.mapHarmonics fun x => { x with intervals := [anInterval done], lost := 3, emission := at? }).mapLink fun l =>
    { l with records := List.replicate queued (.sag aSagRecord false) }

/-- Nothing unsent; the first part and the last; a queue with one place and a full one. -/
theorem witness_IntervalRecordEmitted :
    (recorded true none 0).harmonics.emission = none ∧ (∀ e ∈ (recorded true none 0).harmonics.intervals, e.sent = true) ∧
    (∀ x n, (recorded false x n).harmonics.emission = x ∧ (recorded false x n).harmonics.intervals = [anInterval false] ∧
      (recorded false x n).link.records.length = n) ∧
    [anInterval false].find? (fun x => !x.sent) = some (anInterval false) ∧
    [anInterval false].find? (fun x => decide (x.record.number = 1)) = some (anInterval false) ∧ 31 < 32 ∧
    ((anInterval false).record.sections.length + 3) / 4 = 1 + 1 :=
  ⟨rfl, by decide, fun _ n => ⟨rfl, rfl, List.length_replicate⟩, by decide⟩

/-- R132: five channel sections make two parts, the second with the fifth section; then the entry is SENT. -/
theorem test_interval_emission :
    ((after (exec .intervalRecordEmit (recorded false none 0))).link.records.map fun f =>
      match f with | .interval r k n l => (r.lostBefore, k, n, l.length) | _ => (0, 0, 0, 0)) = [(3, 1, 2, 4)] ∧
    ((after (exec .intervalRecordEmit (recorded false (some ⟨1, 1⟩) 0))).link.records.map fun f =>
      match f with | .interval r k n l => (r.lostBefore, k, n, l.length) | _ => (0, 0, 0, 0)) = [(0, 2, 2, 1)] ∧
    ((after (exec .intervalRecordEmit (recorded false (some ⟨1, 1⟩) 0))).harmonics.intervals.map fun e => e.sent) = [true] ∧
    (after (exec .intervalRecordEmit ((recorded false (some ⟨1, 1⟩) 0).mapSurvey fun x =>
      { x with state := .closing, number := some 7, tick := 9 }))).link.notices =
      [⟨9, .survey .closed (some 7) .drained⟩] := by decide +kernel

/-- Groups just outside, the last group, and one that holds no harmonic state. -/
theorem witness_CountersAndPeaksClear_peaks :
    (∀ k, Takes State.reset 1 (.clearPeaks k) State.reset) ∧ 8 < 9 ∧ 8 = (7 : Grp).val + 1 ∧
    (7 : Grp) ≠ 0 ∧ (State.reset.harmonics.groups.get 7).summary.cells = [] :=
  ⟨fun _ => atOnce rfl _ _, by decide⟩

/-! ## Site notes -/

def siteText : List Byte := List.replicate 8 0x53

/-- Not open; no operand; the longest site and one longer; a field written already; and fields that are free. -/
theorem witness_SetIdentityWrites :
    Takes State.reset 1 (.setIdentity ⟨none, none, none⟩) State.reset ∧ State.reset.survey.state ≠ .opened ∧
    (∀ f, Takes (inState .opened 5) 1 (.setIdentity f) (inState .opened 5)) ∧ (inState .opened 5).survey.state = .opened ∧
    identityFault ⟨some siteText, none, none⟩ = none ∧ identityFault ⟨some (0x53 :: siteText), none, none⟩ = some 1 ∧
    identityTaken ⟨some 7, none, some siteText, none, none⟩ ⟨some siteText, none, none⟩ = some 1 ∧
    identityTaken (inState .opened 5).notes.identity ⟨some siteText, none, none⟩ = none ∧
    (⟨some siteText, none, none⟩ : IdentityFields) ≠ ⟨none, none, none⟩ :=
  ⟨atOnce rfl _ _, by decide, fun _ => atOnce rfl _ _, rfl, by decide⟩

/-- A survey OPEN at tick 500 with the notes given, one sag number and one interval number issued. -/
def noted (l : List Note) : State :=
  (((inState .opened 500).mapNotes fun x => { x with notes := l }).mapEvents fun x =>
    { x with lastSag := 1, sags := [aSag (.sent aSagRecord)] }).mapHarmonics fun x => { x with lastInterval := 1 }

def storedNote (state : NoteState) (sag : Option SagLink) : Note :=
  ⟨.location, 400, 300, sag, none, none, none, 0, none, state⟩

/-- A kind just outside, a refer tick at the tick and one above; a number not issued; the last place of the table and none. -/
theorem witness_AddNoteCreates :
    Takes State.reset 1 (.addNote aNote) State.reset ∧ State.reset.survey.state ≠ .opened ∧
    (∀ l f, Takes (noted l) 1 (.addNote f) (noted l) ∧ (noted l).survey.state = .opened ∧ (noted l).notes.notes = l) ∧
    noteFault 500 { aNote with kind := 6 } = some 1 ∧ noteFault 500 { aNote with refer := some 501 } = some 2 ∧
    noteFault 500 { aNote with refer := some 500 } = none ∧ noteFault 500 { aNote with sag := some 1 } = none ∧
    ((noted []).events.lastSag < 2 ∧ (noted []).harmonics.lastInterval < 2 ∧ ¬(noted []).events.lastSag < 1) ∧
    (List.replicate 127 (storedNote .live none)).length < 128 ∧ ¬(List.replicate 128 (storedNote .live none)).length < 128 ∧
    keeps (noted []) 1 = true ∧ keeps State.reset 1 = false := by
  refine ⟨atOnce rfl _ _, by decide, fun _ _ => ⟨atOnce rfl _ _, rfl, rfl⟩, ?_⟩
  decide +kernel

/-- R140, R141: a note with a link to a retained sag record is KEPT and numbered 1. -/
theorem test_addNote :
    let t := after (exec (.addNote 9 { aNote with sag := some 1, text := [0x41] }) (noted []))
    t.link.replies = [⟨9, 0x21, .ok, [1, 1, 1], 0⟩] ∧ t.notes.kept = [(1, 1)] ∧ t.notes.segments = [⟨[0x41], none⟩] ∧
    (t.events.sags.map fun e => e.keeps) = [1] := by decide +kernel

/-- Not open; the numbers just outside; each state of the note; a full table; a sag link inherited, removed and replaced. -/
theorem witness_NotesAmendedAndWithdrawn :
    Takes State.reset 1 (.amendNote 1 noAmend) State.reset ∧ State.reset.survey.state ≠ .opened ∧
    (∀ l n f, Takes (noted l) 1 (.amendNote n f) (noted l) ∧ (noted l).survey.state = .opened ∧ (noted l).notes.notes = l) ∧
    amendFault 500 129 noAmend = some 0 ∧ amendFault 500 128 noAmend = none ∧
    amendFault 500 1 { noAmend with pod := .given 13 } = some 5 ∧
    amendFault 500 1 { noAmend with sag := .given 1, interval := .none } = none ∧
    (([storedNote .live none] : List Note).length < 2 ∧ [storedNote .live none][1 - 1]? = some (storedNote .live none)) ∧
    (storedNote (.amended 2) none).state = .amended 2 ∧ (storedNote .withdrawn none).state = .withdrawn ∧
    (storedNote .live none).state = .live ∧ ([storedNote .live none] : List Note).length < 128 ∧
    ¬(List.replicate 128 (storedNote .live none)).length < 128 ∧
    (∀ k, (storedNote .live (some ⟨k, true⟩)).sag = some ⟨k, true⟩) ∧
    ∀ l ∈ (storedNote .live none).sag, l.sag ≠ 1 := by
  refine ⟨atOnce rfl _ _, by decide, fun _ _ _ => ⟨atOnce rfl _ _, rfl, rfl⟩, ?_⟩
  refine ⟨by decide, by decide, by decide, by decide, by decide, rfl, rfl, rfl, by decide, by decide +kernel, fun _ => rfl, by decide⟩

/-- Not open; the numbers just outside; each state of the note, with a kept link and without one. -/
theorem witness_NotesAmendedAndWithdrawn_withdrawn :
    Takes State.reset 1 (.withdrawNote 1) State.reset ∧ State.reset.survey.state ≠ .opened ∧
    (∀ l n, Takes (noted l) 1 (.withdrawNote n) (noted l) ∧ (noted l).survey.state = .opened ∧ (noted l).notes.notes = l) ∧
    128 < 129 ∧ ([storedNote .live none] : List Note).length < 2 ∧
    (∀ x s, [storedNote x s][1 - 1]? = some (storedNote x s) ∧ (storedNote x s).state = x ∧ (storedNote x s).sag = s) ∧
    ∀ k, (none : Option SagLink) ≠ some ⟨k, true⟩ :=
  ⟨atOnce rfl _ _, by decide, fun _ _ => ⟨atOnce rfl _ _, rfl, rfl⟩, by decide, by decide, fun _ _ => ⟨rfl, rfl, rfl⟩,
    fun _ => nofun⟩

/-- Not open; OPEN with a full table, and with 127 notes. -/
theorem witness_MarkMakesNote :
    Takes State.reset 1 .mark State.reset ∧ State.reset.survey.state ≠ .opened ∧
    (∀ l, Takes (noted l) 1 .mark (noted l) ∧ (noted l).survey.state = .opened ∧ (noted l).notes.notes = l) ∧
    128 ≤ (List.replicate 128 (storedNote .live none)).length ∧ (List.replicate 127 (storedNote .live none)).length < 128 := by
  refine ⟨atOnce rfl _ _, by decide, fun _ => ⟨atOnce rfl _ _, rfl, rfl⟩, by decide +kernel⟩

/-- R146: a mark outside OPEN is lost and counted. -/
theorem test_mark_lost :
    (after (exec (.mark 1) State.reset)).notes.markLost = 1 ∧
    (after (exec (.mark 1) State.reset)).link.replies = [⟨1, 0x24, .notOpen, [], 0⟩] := by decide +kernel

/-- The identity, numbers just outside, a note that stands; nothing pending, and a pending note with and without room. -/
theorem witness_NotesReadAndSent :
    (∀ l x, Takes (noted l) 1 (.readNote x) (noted l) ∧ (noted l).notes.notes = l) ∧ 128 < 129 ∧
    ([storedNote .live none] : List Note).length < 2 ∧ [storedNote .live none][1 - 1]? = some (storedNote .live none) ∧
    State.reset.notes.pending = [] ∧
    ((noted []).mapNotes fun x => { x with pending := [1] }).notes.pending = 1 :: [] ∧
    (∀ n, (linked fun l => { l with records := List.replicate n (.sag aSagRecord false) }).link.records.length = n) ∧ 31 < 32 :=
  ⟨fun _ _ => ⟨atOnce rfl _ _, rfl⟩, by decide, by decide, rfl, rfl, rfl, fun _ => List.length_replicate, by decide⟩

/-! ## Report printing -/

/-- The print controller with template 1 set and the jobs and the exchange given. -/
def printing (jobs : List Job) (x : Exchange) : State :=
  State.reset.mapPrinter fun p => { p with templates := p.templates.set 0 (some [.title]), jobs := jobs, exchange := x }

/-- A template in use; index 0 and above the last; an empty section list and a good one; settings at the margin and inside. -/
theorem witness_LinkAndPrinterLoads_printer :
    (∃ j ∈ (printing [aJob 1 .queued] .idle).printer.jobs, j.template = 1) ∧
    (∀ l x d, Takes (printing l x) 1 d (printing l x)) ∧ (¬∃ j ∈ State.reset.printer.jobs, j.template = 4) ∧
    (∀ d, Takes State.reset 1 d State.reset) ∧ 4 < 5 ∧ 4 = (3 : Fin 4).val + 1 ∧
    templateFault ⟨0, []⟩ = some (.badValue, 1) ∧ templateFault ⟨1, [.given 9 [0]]⟩ = some (.badValue, 1) ∧
    templateFault ⟨1, [.given 9 [64]]⟩ = none ∧ printerFault { aPrinter with resumeLimit := 66 } = some (.badTable, 5) ∧
    printerFault { aPrinter with resumeLimit := 65 } = none ∧ printerFault { aPrinter with heldMinutes := 61 } = some (.badValue, 6) :=
  ⟨⟨_, List.mem_singleton.mpr rfl, rfl⟩, fun _ _ _ => atOnce rfl _ _, nofun, fun _ => atOnce rfl _ _, by decide⟩

def aSubmit : SubmitFields := ⟨1, 0, 1000, 255, 1⟩

/-- Operands just outside; a template that is not set; four live jobs; none; and a job PRINTING already. -/
theorem witness_SubmitPrintQueues :
    (∀ l x f, Takes (printing l x) 1 (.submitPrint f) (printing l x) ∧ (printing l x).printer.jobs = l) ∧
    submitFault { aSubmit with template := 5 } = some 1 ∧ submitFault { aSubmit with toTick := 0, fromTick := 1 } = some 2 ∧
    submitFault { aSubmit with copies := 4 } = some 5 ∧ submitFault aSubmit = none ∧
    (∃ i x, ofNumber 4 1 = some i ∧ (printing [] .idle).printer.templates.get i = some x) ∧
    Takes State.reset 1 (.submitPrint aSubmit) State.reset ∧
    (¬∃ i x, ofNumber 4 1 = some i ∧ State.reset.printer.templates.get i = some x) ∧
    4 ≤ [aJob 1 .printing, aJob 2 .queued, aJob 3 .queued, aJob 4 .queued].length ∧
    (∀ k ∈ [aJob 1 .printing], k.state ≠ .queued) ∧
    (let rs : List SagRecord :=
      [{ aSagRecord with number := 2, start := 50 }, { aSagRecord with number := 4 },
       { aSagRecord with number := 7, start := 900 }]
     (rs.map fun r => r.number).Nodup ∧ (∀ r ∈ rs, 50 ≤ r.start) ∧ (∀ r ∈ rs, r.start ≤ 900) ∧
      (∃ r ∈ rs, r.start < 100 ∧ 3 = r.number + 1 ∧ ∀ q ∈ rs, q.start < 100 → q.number ≤ r.number) ∧
      ∃ r ∈ rs, 899 < r.start ∧ 6 = r.number - 1 ∧ ∀ q ∈ rs, 899 < q.start → r.number ≤ q.number) := by
  refine ⟨fun _ _ _ => ⟨atOnce rfl _ _, rfl⟩, by decide, by decide, by decide, by decide, ⟨0, [.title], by decide⟩,
    atOnce rfl _ _, ?_, by decide, by decide, by decide⟩
  rintro ⟨i, x, -, h⟩
  rw [show State.reset.printer.templates.get i = none from Table.get_replicate none i] at h
  cases h

/-- R155, R157: a job submitted while none is live starts with the opening query. -/
theorem test_submit :
    let t := after (exec (.submitPrint 2 aSubmit) (printing [] .idle))
    t.link.replies = [⟨2, 0x30, .ok, [0, 1, 0, 0, 0, 0], 0⟩] ∧ t.printer.exchange = .message 0 ∧
    (t.printer.jobs.map fun j => (j.state, j.current)) = [(.printing, .query)] := by decide +kernel

/-- R156: after number 65535 comes 1. -/
theorem test_job_numbers :
    (after (exec (.submitPrint 2 aSubmit)
      ((printing [] .idle).mapPrinter fun p => { p with lastJob := 65535 }))).printer.lastJob = 1 := by decide +kernel

/-- Number 0; a number not held; a marked job; a job whose exchange awaits its STATUS; and one that does not. -/
theorem witness_CancelPrintCancels :
    (∀ l x n, Takes (printing l x) 1 (.cancelPrint n) (printing l x) ∧ (printing l x).printer.jobs = l ∧
      (printing l x).printer.exchange = x) ∧
    (∀ j ∈ [aJob 1 .printing], j.number ≠ 2) ∧
    (∀ j : Job, j.number = 1 → ([j].find? fun k => decide (k.number = 1)) = some j) ∧
    { aJob 1 .printing with cancel := true }.cancel = true ∧ (aJob 1 .printing).cancel = false ∧
    (aJob 1 .printing).state ≠ .queued ∧ (aJob 1 .queued).state = .queued ∧
    (Exchange.message 5 = .message 5 ∧ ∀ e, Exchange.pollGap 5 ≠ .message e) := by
  refine ⟨fun _ _ _ => ⟨atOnce rfl _ _, rfl, rfl⟩, by decide, fun j h => by simp [h], rfl, rfl, by decide, rfl, rfl, nofun⟩

/-- R170: the queued job ends at once and its reply gives its number and its state. -/
theorem test_cancel :
    let t := after (exec (.cancelPrint 2 1) (printing [aJob 1 .queued] .idle))
    t.link.replies = [⟨2, 0x31, .ok, [0, 1, 1], 0⟩] ∧ t.printer.jobs = [] ∧
    t.link.notices = [⟨0, .job 1 .cancelledHost 1⟩] := by decide +kernel

theorem inHand (n : Nat) (x : Exchange) : InHand (printing [aJob n .printing] x) (aJob n .printing) x :=
  ⟨by simp [printing, aJob], rfl⟩

/-- A job PRINTING with an exchange of every kind; no job; a fault, no paper, the hot limit and one below it, busy and good. -/
theorem witness_PrinterStatusJudged :
    (∀ x, InHand (printing [aJob 1 .printing] x) (aJob 1 .printing) x) ∧
    (∀ j ∈ (printing [aJob 1 .queued] .idle).printer.jobs, j.state = .queued) ∧ (aJob 1 .printing).cancel = false ∧
    InHand (printing [{ aJob 1 .printing with cancel := true }] (.message 3)) { aJob 1 .printing with cancel := true } (.message 3) ∧
    (State.reset.printer.settings.hotLimit : Int) ≤ 70 ∧ ¬(State.reset.printer.settings.hotLimit : Int) ≤ 69 ∧
    (60 : Int) ≤ (State.reset.printer.settings.resumeLimit : Int) ∧
    { aJob 1 .printing with current := .feed 3, rest := [.query] }.rest = .query :: [] ∧
    (let sects := (printing [aJob 1 .printing] (.message 0)).printer.sects (aJob 1 .printing)
     sects[(aJob 1 .printing).nextSect]? = none ∧ sects[{ aJob 1 .printing with nextSect := 0 }.nextSect]? = some .title ∧
     (aJob 1 .printing).copies ≤ (aJob 1 .printing).copy ∧ (aJob 1 .printing).copy < { aJob 1 .printing with copies := 2 }.copies) ∧
    (let j := { aJob 1 (.held .paper) with cancel := true, current := .feed 3 }
     InHand (printing [j] (.heldPoll 3)) j (.heldPoll 3) ∧ j.state ≠ .printing ∧ j.current ≠ .query ∧
     (aJob 1 (.held .paper)).current = .query) ∧
    ([aJob 1 .printing].filter fun k => decide (k.number ≠ (aJob 1 .printing).number)) = [] ∧
    ([aJob 1 .printing, aJob 2 .queued].filter fun k => decide (k.number ≠ (aJob 1 .printing).number)) = aJob 2 .queued :: [] := by
  refine ⟨fun x => inHand 1 x, by simp [printing, aJob], rfl, ⟨by simp [printing, aJob], rfl⟩, by decide, by decide, by decide, rfl,
    by decide, ⟨⟨by simp [printing, aJob], rfl⟩, by decide⟩, by decide, by decide⟩

/-- R168: without paper the job is HELD; with a fault it is FAILED. -/
theorem test_status :
    ((after (exec (.printerStatus ⟨true, false, 20, 0⟩) (printing [aJob 1 .printing] (.message 3)))).printer.jobs.map
      fun j => j.state) = [.held .paper] ∧
    ((after (exec (.printerStatus ⟨true, true, 20, 4⟩) (printing [aJob 1 .printing] (.message 3)))).link.notices.map
      fun n => n.body).getLast? = some (.job 1 (.failedFault 4) 1) := by decide +kernel

/-- R165: the first STATUS changes what is reported and offers one PRINTER notice, for the job in hand; the same again offers
none. -/
theorem test_printer_notice :
    let s := after (exec (.printerStatus ⟨true, true, 20, 0⟩) (printing [aJob 1 .printing] (.pollGap 3)))
    s.link.notices.map (fun n => n.body) = [.printer (some ⟨true, true, 20, 0⟩) .answering false (some 1)] ∧
    (after (exec (.printerStatus ⟨false, true, 25, 0⟩) s)).link.notices = s.link.notices := by decide +kernel

/-- Each timer at its length and one below: the reply timer, the retry interval, the gaps, the cooldown and the held limit. -/
theorem witness_PrintTimersRun :
    (∀ x, InHand (printing [aJob 1 .printing] x) (aJob 1 .printing) x) ∧ 5120 ≤ 5120 ∧ 5119 < 5120 ∧
    (aJob 1 .printing).retries < State.reset.printer.settings.retryLimit ∧
    State.reset.printer.settings.retryLimit ≤ { aJob 1 .printing with retries := 2 }.retries ∧
    0 < State.reset.printer.settings.cooldown ∧ { aPrinter with cooldown := 0 }.cooldown = 0 ∧
    (aJob 1 .printing).cancel = false ∧ { aJob 1 .printing with cancel := true }.cancel = true ∧
    (⟨10240, 10240⟩ : Timer).length ≤ (⟨10240, 10240⟩ : Timer).elapsed ∧ (⟨10239, 10240⟩ : Timer).elapsed < (⟨10239, 10240⟩ : Timer).length ∧
    512 ≤ 512 ∧ 10239 < 10240 ∧
    State.reset.printer.settings.heldMinutes * 614400 ≤ { aJob 1 .printing with held := 6144000 }.held ∧
    { aJob 1 .printing with held := 6143999 }.held < State.reset.printer.settings.heldMinutes * 614400 :=
  ⟨fun x => inHand 1 x, by decide⟩

/-- R167: the first silence leads to the retry interval of 1,000 ms, 10,240 ticks. -/
theorem test_reply_timeout :
    (after (exec .printReplyTimeout (printing [aJob 1 .printing] (.message 5120)))).printer.exchange = .retryWait ⟨0, 10240⟩ ∧
    (after (exec .printReplyTimeout (printing [aJob 1 .printing] (.message 5119)))).printer.exchange = .message 5119 := by
  decide +kernel

theorem resetJobBounds : JobBounds State.reset.printer := by constructor <;> decide

theorem witness_JobBoundsKept :
    JobBounds State.reset.printer ∧ ∃ t, step { State.reset with pending := [.heldPoll] } = .next t :=
  ⟨resetJobBounds, _, rfl⟩

/-! ## Sample frames -/

/-- An open tick without a search, every channel RAW where asked, the block in formation as given. -/
def forming (raw : Bool) (b : Option Block) : State :=
  ((swept none).mapSurvey fun x =>
    { x with channels := x.channels.set 0 (some (.mapped ⟨.voltage, 1, 14000, 230, raw, true, true⟩)) }).mapLink fun l =>
    { l with block := b }

/-- No RAW channel; no block in formation; blocks of 30 and of 31 rows; a RAW set changed in the tick; the sample queue with
one place left, and full. -/
theorem witness_SampleBlocksForm :
    (∀ raw b, (forming raw b).ring.tickOpen = true ∧ (forming raw b).link.rawHold = none ∧ (forming raw b).link.block = b) ∧
    (forming false none).survey.rawSet = [] ∧ (forming true none).survey.rawSet = [1] ∧
    (⟨0, [1], List.replicate 30 [(0, true)]⟩ : Block).rows.length < 31 ∧
    (⟨0, [1], List.replicate 31 [(0, true)]⟩ : Block).rows.length = 31 ∧
    ((forming true none).mapLink fun l => { l with samples := List.replicate 31 aSampleFrame }).link.samples.length +
      (([1] : List Nat).length + 6) / 7 ≤ 32 ∧
    ((forming true none).mapLink fun l => { l with samples := List.replicate 32 aSampleFrame }).link.samples.length = 32 ∧
    ((forming true none).mapLink fun l => { l with rawHold := some [] }).link.rawHold ≠ none := by
  refine ⟨fun _ _ => ⟨rfl, rfl, rfl⟩, by decide +kernel, by decide +kernel, by decide, by decide, by decide, by decide, by decide⟩

/-- R184: the 32nd row closes the block into one sample frame of 32 ticks. -/
theorem test_block_closes :
    let t := after (exec .tickClose (forming true (some ⟨5, [1], List.replicate 31 [(0, true)]⟩)))
    t.link.block = none ∧ (t.link.samples.map fun f => (f.first, f.ticks, f.portion, f.portions, f.samples.length)) =
      [(5, 32, 1, 1, 32)] := by decide +kernel

/-! ## The trackers, captures, intervals and sections at work -/

/-- Group 1 tracked as given, at the open tick 503: its latches are 0, so the reference is non-negative. -/
def sensed (x : Tracker) : State := (tracked x).mapRing fun r => { r with tickOpen := true }

/-- Nothing is due, and an off timer, a quiet timer, a print exchange and a join in the slot are running. -/
def running : State :=
  (((looped fun r => { r with mode := .reverse, modeTicks := 7, request := some (aJoin .joinRead 0 5) }).mapPod 0 fun r =>
      { r with state := .off .offTime .policy, timer := some ⟨3, 20480⟩ }).mapPod 2 fun r =>
      { r with state := .active, quiet := some 9 }).mapPrinter fun x =>
    { x with jobs := [aJob 1 .printing], exchange := .message 3 }

theorem witness_TicksBeginAndDispatch_timers :
    running.ring.tickOpen = false ∧ ∀ c ∈ timedCommands, exec c running = .next running := by
  refine ⟨rfl, ?_⟩
  have all : (timedCommands.all fun c =>
      match exec c running with | .next t => decide (t = running) | _ => false) = true := by decide +kernel
  intro c hc
  have := List.all_eq_true.mp all c hc
  split at this
  · next t ht => rw [ht, of_decide_eq_true this]
  · cases this

/-- R9, R40, R54, R55, R166, R169: the tick advances them all by one. -/
theorem test_timers_advance :
    let t := after (exec .tickStart running)
    (t.pods.records.get 0).timer = some ⟨4, 20480⟩ ∧ (t.pods.records.get 2).quiet = some 10 ∧
    t.printer.exchange = .message 4 ∧ t.printer.jobs.map (fun j => j.held) = [(aJob 1 .printing).held + 1] ∧
    t.ring.request = some (aJoin .joinRead 0 6) ∧ t.ring.modeTicks = 8 := by decide +kernel

/-- No sign settled, the same sign, and the opposite one at the second and at the fourth tick of a run with D of 4; an unset
group, and no analysis. -/
theorem witness_CrossingsSensed :
    (∀ x, (sensed x).ring.tickOpen = true ∧ (sensed x).survey.analysing = true ∧ 1 ≤ (sensed x).survey.tick ∧
      (sensed x).survey.groups.get 0 = some aGroup ∧ (sensed x).survey.groups.get 1 = none) ∧
    (∀ x, (sensed x).trackers.get 0 = x) ∧ Tracker.reset.settled = none ∧
    (∀ x, ((after (exec .tickClose (sensed Tracker.reset))).ring.latchOf x).value = 0 ∨ x ≠ 1) ∧
    (Sign.negative ≠ .nonNegative ∧ { Tracker.reset with settled := some .negative, run := 1 }.run + 1 < aGroup.d ∧
      aGroup.d ≤ { Tracker.reset with settled := some .negative, run := 3 }.run + 1) ∧
    State.reset.survey.analysing = false := by
  refine ⟨fun x => ⟨rfl, rfl, (by decide : 1 ≤ 503), by simp [sensed, tracked, inState], by simp [sensed, tracked, inState]; decide⟩,
    fun x => by simp [sensed, tracked], rfl, fun x => ?_, by decide, rfl⟩
  by_cases h : x = 1
  · subst h
    exact .inl (by decide +kernel)
  · exact .inr h

/-- R67, R68: the fourth tick in a row of the other sign settles it, and the crossing dates from the run's first tick. -/
theorem test_crossing :
    let x := (after (exec .tickClose
      (sensed { dueTracker .timed with due := none, settled := some .negative, run := 3, runStart := 500, limit := 200 }))).trackers.get 0
    x.settled = some .nonNegative ∧ x.run = 0 := by decide +kernel

/-- The origin; no anchor, an interval of 78, 114 and 77 samples, the fourth plausible one; a crossing at the limit of the
window and one past it; a first and a second one in FLYWHEEL. -/
theorem witness_TrackerDecides :
    Tracker.reset.last = none ∧ (dueTracker .timed).last = some ⟨398, .rising, .crossing⟩ ∧
    { dueTracker .timed with state := .acquiring, anchor := some 398 }.state = .acquiring ∧
    ((78 ≤ 476 - 398 ∧ 476 - 398 ≤ 114) ∧ (78 ≤ 512 - 398 ∧ 512 - 398 ≤ 114) ∧ ¬(78 ≤ 475 - 398 ∧ 475 - 398 ≤ 114)) ∧
    ({ dueTracker .timed with intervals := [102, 102, 102] }.intervals.length = 3 ∧
      (dueTracker .timed).intervals.length ≠ 3) ∧
    (Edge.falling ≠ .rising ∧ { dueTracker .timed with limit := 102 }.limit ≤ 500 - 398 ∧
      ¬500 - 398 ≤ { dueTracker .timed with limit := 101 }.limit) ∧
    (dueTracker .timed).state = .locked ∧
    ({ dueTracker .wheel with state := .flywheel, accepted := 0 }.accepted = 0 ∧
      { dueTracker .wheel with state := .flywheel, accepted := 1 }.accepted ≠ 0) := by decide

/-- A member with its sample; a ring kept and none; a recorded event, one for which no entry is left, and one that joins a
burst at the edge of its window of 500 ms, 5,120 ticks, one that starts it, and one past it. -/
theorem witness_EventStartsAndStores :
    ([aMember .normal 100 0] : List MemberState)[0]? = some (aMember .normal 100 0) ∧
    ([⟨0, 1, 10000⟩] : List VoltageMember)[0]? = some ⟨0, 1, 10000⟩ ∧ { aProfile with pre := 0 }.pre = 0 ∧ aProfile.pre ≠ 0 ∧
    (Events.reset.lastSag < 4294967295 ∧ Events.reset.sags.length < 64) ∧
    (¬({ Events.reset with sags := List.replicate 64 (aSag .opened) }.sags.length < 64) ∧
      ¬∃ e ∈ { Events.reset with sags := List.replicate 64 (aSag .opened) }.sags, spare e = true) ∧
    ((∃ e ∈ List.replicate 64 (aSag (.sent aSagRecord)), spare e = true) ∧
      (List.replicate 64 (aSag (.sent aSagRecord))).find? spare = some (aSag (.sent aSagRecord)) ∧
      (List.replicate 64 (aSag .opened)).find? spare = none ∧ 64 ≤ (List.replicate 64 (aSag .opened)).length ∧
      (∀ y ∈ Events.reset.sags, y.number ≤ Events.reset.lastSag) ∧ ∀ y ∈ [aSag (.sent aSagRecord)], y.number ≤ 1) ∧
    (let start := (boundaryWork 16 5320 .normal .sag (some 5000)).boundary.tick - 100
     aProfile.burstMs ≠ 0 ∧ start - 100 ≤ aProfile.burstMs * 1024 / 100 ∧ ¬(start - 99 ≤ aProfile.burstMs * 1024 / 100)) ∧
    (⟨some 7, 3, some 100, some 9⟩ : Burst).id = some 7 ∧
    ((⟨none, 0, some 100, some 9⟩ : Burst).id = none ∧ (⟨none, 0, some 100, some 9⟩ : Burst).lastNumber = some 9) := by
  decide +kernel

/-- A capture that has stopped; a row of one word that is the last of a page, and one that needs the next page; a free page,
none with a candidate, and none at all; a descriptor of a full page; a body at its limit; an event with an entry and without. -/
theorem witness_CapturePagesTaken :
    (⟨4, [1], true⟩ : Writing).stopped = true ∧
    ((1023 + 1) * 1 ≤ (⟨1023, [1], false⟩ : Writing).pages.length * 1024 ∧
      ¬((1024 + 1) * 1 ≤ (⟨1024, [1], false⟩ : Writing).pages.length * 1024)) ∧
    { Events.reset with freePages := [4, 5] }.freePages = 4 :: [5] ∧
    ({ Events.reset with freePages := [], sags := [aSag .opened, aSag (.sent aSagRecord)] }.freePages = [] ∧
      [aSag .opened, aSag (.sent aSagRecord)].find? spare = some (aSag (.sent aSagRecord)) ∧
      [aSag .opened].find? spare = none) ∧
    (let c : Capture := ⟨List.replicate 1024 [0], 0, 1024, 0, 4, [1], false⟩
     1 ≤ 1 ∧ 1 ≤ 1024 ∧ c.pages.length = (c.rows.length * 1 + 1023) / 1024 ∧ c.stopped = false) ∧
    (anEvent.recorded = true ∧ anEvent.capture.bodyHalves < 1 ∧ 0 ≤ anEvent.capture.bodyHalves ∧
      { anEvent with recorded := false }.recorded = false) := by decide +kernel

/-- R106, R108 (entry 17): a candidate without pages is evicted for a page although the capture stops for want of one. -/
theorem test_eviction_stands :
    let t := writeRow 1 (⟨0, [], false⟩,
      { Events.reset with freePages := [], sags := [⟨2, .sent aSagRecord, [], [], 0, 0⟩, aSag .opened] })
    t.1.stopped = true ∧ t.2.sags = [aSag .opened] := by decide +kernel

/-- An event that a group holds, recorded and not, numbered and not. -/
theorem witness_RecordCompletes :
    (∀ e, (inMachine .active e).event = some e) ∧ anEvent.recorded = true ∧ anEvent.number = some 1 ∧
    { anEvent with recorded := false }.recorded = false ∧ { anEvent with number := none }.number = none :=
  ⟨fun _ => rfl, rfl, rfl, rfl, rfl⟩

/-- A group that is not analysed, and one that is, with a cycle pending that does not complete the interval of 64 blocks, and
one that does; a falling boundary, and a rising one that names a cycle of 256 samples and one that names none; a valid cycle. -/
theorem witness_CyclesClose :
    State.reset.analysedBins aGroup = none ∧ inCycle.analysedBins ⟨[1, 2, 3], 1, some 1, 50, 1, some 2, 16, 3, 96, 32, 4, 50⟩ = some aBinSet ∧
    (inCycle.harmonics.groups.get 0).pending = some ⟨96, 300, [none, none, none]⟩ ∧
    (let y (n : Nat) := ({ inBlock 9 9 false with interval := ⟨[[0, 0]], n, n, 0, 0, some 7⟩ } : GroupHarmonics).addCycle
      aBinSet aCycle false
     (y 62).interval.total < 2 ^ aBinSet.exponent ∧ 2 ^ aBinSet.exponent ≤ (y 63).interval.total) ∧
    ((aBoundary 100).edge = .falling ∧ { aBoundary 100 with edge := .rising }.cycleStart = none ∧
      { aBoundary 356 with edge := .rising, cycleStart := some 100 }.cycleStart = some 100 ∧ 356 - 100 ≤ 256) ∧
    (let a : HalfFlags := ⟨true, false, false, false, false⟩
     ([a] : List HalfFlags).getLast? = some a ∧ a.tracked = true ∧ a.resync = false ∧ a.short = false ∧
     (aBoundary 356).flags = a) ∧ 0 < (inCycle.survey.analysed ⟨[1, 2, 3], 1, some 1, 50, 1, some 2, 16, 3, 96, 32, 4, 50⟩).length := by
  decide +kernel

/-- An interval with a used block and an EMPTY one; the list with a place, full with a candidate, full without one; the record
queue with room for the part and full; the last number and the one before it. -/
theorem witness_IntervalsClose :
    (inBlock 0 0 false).interval.used ≠ 0 ∧ (GroupHarmonics.opened [1] [3]).interval.used = 0 ∧
    (4294967294 < 4294967295 ∧ 4294967295 ≤ 4294967295) ∧
    ((recorded false none 0).harmonics.intervals.length < 96 ∧
      96 ≤ (List.replicate 96 (anInterval true)).length ∧
      (List.replicate 96 (anInterval true)).find? (fun e => e.sent && decide (e.pins = 0)) = some (anInterval true) ∧
      (List.replicate 96 (anInterval false)).find? (fun e => e.sent && decide (e.pins = 0)) = none) ∧
    ((3 + 3) / 4 ≤ 32 - (recorded false none 31).link.records.length ∧
      32 - (recorded false none 32).link.records.length < (3 + 3) / 4) ∧
    ((GroupHarmonics.opened [1] [3]).summary.cells[0]? = some [emptyCell, emptyCell] ∧ [emptyCell, emptyCell][0]? = some emptyCell) := by
  decide +kernel

/-- R124 to R126: two used blocks of 12,000² and one listed order of 320² have the ratio 266 bp, above a limit of 200. -/
theorem test_interval_section :
    let r := intervalRecord 0 { aBinSet with orders := [3], limits := [200], minFund := 500 } [1] 400 1636 false
      ⟨[[2 * 12000 * 12000, 2 * 320 * 320]], 2, 2, 0, 0, some 100⟩
    r.frequency = 50073 ∧ r.sections = [⟨1, some 12000, [⟨3, 320, some 266⟩], some 266, [3]⟩] := by decide +kernel

/-- A tick in which position 1 reports MARK for the first time while position 3 reports none. -/
def marked (last : Option Nat) : State :=
  (((swept (some (⟨true, 0x0800#16, [1, 2, 3, 4]⟩ :: slots true 0#16))).mapSurvey fun x =>
      { x with state := .opened, tick := 20480 })).mapNotes fun x => { x with lastMark := x.lastMark.set 0 last }

/-- The mark of position 1 is accepted, 20,480 ticks after the last one; one tick less and none is. -/
theorem witness_PodMarksTaken :
    (∀ x, (marked x).ring.tickOpen = true ∧ (marked x).survey.state = .opened) ∧
    (([0] : List Pos).Pairwise (· < ·) ∧ ∀ p, p ∈ ([0] : List Pos) ↔ NewMark (marked (some 0)) p ∧ MarkAccepted (marked (some 0)) p) ∧
    (([] : List Pos).Pairwise (· < ·) ∧
      ∀ p, p ∈ ([] : List Pos) ↔ NewMark (marked (some 1)) p ∧ MarkAccepted (marked (some 1)) p) := by
  have new : ∀ p : Pos, ((marked (some 0)).pods.enabled p && feedOn ((marked (some 0)).pods.records.get p).state &&
      !((marked (some 0)).pods.records.get p).mark &&
      ((marked (some 0)).ring.report p).status.any fun w => w.getLsbD 11) = decide (p = 0) := by decide +kernel
  have newMark : ∀ p, NewMark (marked (some 0)) p ↔ p = 0 := fun p => by
    have := new p
    rw [Bool.eq_iff_iff] at this
    simp only [Bool.and_eq_true, Bool.not_eq_true', Option.any_eq_true, decide_eq_true_eq] at this
    rw [← this]
    exact ⟨fun ⟨a, b, c, w, d, e⟩ => ⟨⟨⟨a, b⟩, c⟩, w, d, e⟩, fun ⟨⟨⟨a, b⟩, c⟩, w, d, e⟩ => ⟨a, b, c, w, d, e⟩⟩
  have last : ∀ k, (marked (some k)).notes.lastMark.get 0 = some k := fun k => Table.get_set_self _ _ _
  refine ⟨fun _ => ⟨rfl, rfl⟩, ⟨by decide, fun p => ?_⟩, by decide, fun p => ?_⟩
  · rw [newMark, List.mem_singleton]
    refine ⟨fun h => ⟨h, fun k hk => ?_⟩, And.left⟩
    rw [h, last] at hk
    cases hk
    decide
  · refine ⟨fun h => absurd h List.not_mem_nil, fun ⟨h, k⟩ => ?_⟩
    have h : p = 0 := (newMark p).mp h
    have := k 1 (h ▸ last 1)
    simp [marked, swept] at this

/-- R146, R147: the accepted mark makes a MARK note at its tick with a link to the position. -/
theorem test_pod_mark :
    ((after (exec .tickClose (marked (some 0)))).notes.notes.map fun n => (n.kind, n.made, n.pod)) = [(.mark, 20480, some 0)] ∧
    (after (exec .tickClose (marked (some 1)))).notes.notes = [] := by decide +kernel

/-- A line of a section; a number that is not 0; an interval that is EMPTY and one with a section; a note without a sag link and
with one, retained and not; a selection with nothing and with a record; a channel mapped and not; and a series. -/
theorem witness_SectionsComposed :
    (∃ line, Message.text line ∈ composeSect (aJob 1 .printing) State.reset .title) ∧ (10 : Nat) ≠ 0 ∧
    (let r := (anInterval true).record
     { r with isEmpty := true }.isEmpty = true ∧ { r with isEmpty := false }.isEmpty = false ∧
     ∀ k ∈ { r with sections := [⟨1, some 12000, [⟨3, 320, some 266⟩], some 266, [3]⟩] }.sections, k.fundamental ≠ none) ∧
    ((storedNote .live none).sag = none ∧ (storedNote .live (some ⟨1, true⟩)).sag = some ⟨1, true⟩ ∧
      (∃ e ∈ (sagged (.sent aSagRecord) none 0).events.sags, e.number = 1 ∧ e.status ≠ .opened) ∧
      ¬∃ e ∈ State.reset.events.sags, e.number = 1 ∧ e.status ≠ .opened) ∧
    (let f : SagFilter := ⟨255, 7, 10000⟩
     let s := sagged (.sent aSagRecord) none 0
     selectedSags f (aJob 1 .printing) s = [] ∧
     selectedSags f { aJob 1 .printing with sags := [1] } s = [(aSag (.sent aSagRecord), aSagRecord)]) ∧
    State.reset.survey.channel aSagRecord.worst = none ∧
    (filled [6]).survey.channel aSagRecord.worst = some ⟨.voltage, 1, 14000, 230, true, true, true⟩ ∧ ([5, -5] : List Int) ≠ [] :=
  ⟨⟨_, List.mem_cons_self⟩, by decide, by decide +kernel⟩

/-- R158, R163: HARMONIC_PEAKS prints a member's line, then order 1 without a ratio, and order 3 with its minimum and ratio absent
as dashes. -/
theorem test_peak_lines :
    peakLines 0 ⟨[7], [3], [[⟨900, some 20, none, 0⟩, ⟨12, none, none, 2⟩]]⟩ =
      [ascii "1 7", ascii "1 900 20 0", ascii "3 12 ------- ----- 2"] := by decide +kernel

/-- R83: CLOSE-SURVEY places the boundary already decided, at the decision tick, before it closes the survey. -/
theorem test_close_places :
    let s := tracked { dueTracker .timed with state := .acquiring, period := 1638 }
    ((after (exec (.closeSurvey 1) s)).trackers.get 0).last = some ⟨500, .falling, .timed⟩ ∧
    (after (exec (.closeSurvey 1) s)).survey.state = .closed := by decide +kernel

/-! ## Lists, pages and holders -/

/-- Sag entry 1 SENT with page 5, pinned by job 1 and kept by note 1, and interval entry 1 pinned by it; sag entry 2 OPEN for the
event that group 1 has in progress, whose capture holds page 6; page 7 reserved; note 1 waiting to be sent. -/
def held : State :=
  (((State.reset.mapEvents fun x =>
      { x with
        lastSag := 2
        sags :=
          [{ aSag (.sent aSagRecord) with pins := 1, keeps := 1 }, { aSag .opened with number := 2, pages := [], rows := [] }]
        freePages := (List.range 128).filter fun p => p < 5 || 7 < p
        groups := x.groups.set 0
          { inMachine .active
              { anEvent with number := some 2, capture := ⟨[], 0, 0, 0, 0, [6], false⟩ } with
            reserved := [7] } }).mapHarmonics fun x =>
      { x with lastInterval := 1, intervals := [{ anInterval true with pins := 1 }] }).mapNotes fun x =>
      { x with notes := [storedNote .live (some ⟨1, true⟩)], kept := [(1, 1)], pending := [1] }).mapPrinter fun x =>
      { x with jobs := [{ aJob 1 .printing with sags := [1], intervals := [1] }], lastJob := 1 }

theorem held_event {n : Grp} {e : Event} (h : (held.events.groups.get n).event = some e) :
    n = 0 ∧ e = { anEvent with number := some 2, capture := ⟨[], 0, 0, 0, 0, [6], false⟩ } := by
  by_cases hn : n = 0
  · subst hn
    exact ⟨rfl, (Option.some.inj h).symm⟩
  · rw [show (held.events.groups.get n) = GroupEvents.reset from
      (Table.get_set_of_ne _ _ (Ne.symm hn)).trans (Table.get_replicate _ n)] at h
    cases h

theorem held_lists : ListBounds held where
  pending := by decide
  notes := by decide
  sags := by decide
  issued := by decide
  records e he r h := by
    have : e = { aSag (.sent aSagRecord) with pins := 1, keeps := 1 } ∨
        e = { aSag .opened with number := 2, pages := [], rows := [] } := by
      simpa [held] using he
    rcases this with rfl | rfl <;> rcases h with h | ⟨_, h⟩ <;> cases h
    rfl
  gathered n e h := by
    obtain ⟨-, rfl⟩ := held_event h
    decide
  involved e he r h := by
    have : e = { aSag (.sent aSagRecord) with pins := 1, keeps := 1 } ∨
        e = { aSag .opened with number := 2, pages := [], rows := [] } := by
      simpa [held] using he
    rcases this with rfl | rfl <;> rcases h with h | ⟨_, h⟩ <;> cases h
    decide
  intervals := by decide
  closed := by decide
  last := by decide
  sizes := by decide

theorem witness_RecordListsKept : ListBounds held ∧ ∃ t, step { held with pending := [.noteRecordEmit] } = .next t :=
  ⟨held_lists, _, rfl⟩

theorem witness_PagesKept : PagesAccounted held ∧ ∃ t, step { held with pending := [.frameSend] } = .next t := by
  refine ⟨⟨held_lists, by decide +kernel, by decide, fun n h => ?_, fun n e k h hk => ?_, fun m n e f k hmn hm hn => ?_,
    fun n e h _ => ?_, fun n e h hr => ?_⟩, _, rfl⟩
  · cases he : (held.events.groups.get n).event with
    | none => rfl
    | some e =>
      obtain ⟨rfl, -⟩ := held_event he
      rcases h with h | h <;> cases h
  · obtain ⟨-, rfl⟩ := held_event h
    cases hk
    decide
  · exact absurd ((held_event hm).1.trans (held_event hn).1.symm) hmn
  · obtain ⟨-, rfl⟩ := held_event h
    exact ⟨_, List.mem_cons_of_mem _ (List.mem_singleton.mpr rfl), rfl, rfl⟩
  · obtain ⟨-, rfl⟩ := held_event h
    cases hr

theorem witness_HoldersKept : HoldersCounted held ∧ ∃ t, step { held with pending := [.heldPoll] } = .next t := by
  refine ⟨⟨held_lists, by constructor <;> decide, by decide, by decide, fun n h => ?_, by decide, by decide, by decide,
    by decide, by decide, by decide, by decide⟩, _, rfl⟩
  by_cases hn : n = 1
  · exact ⟨(1, 1), List.mem_singleton.mpr rfl, hn.symm⟩
  · simp [keepers, held, storedNote, Ne.symm hn] at h

end Sys2Proof.Tests
end

section
/-! The five analysis tables of R6 in one value, and what each operation of the model does to it. But for the five loads and
HARDWARE_RESET no operation changes an entry, whatever the survey state. -/

namespace Sys2Proof.Machine

/-! ## The tables and the block updates -/

/-- R6: the entries that the survey lock covers. -/
structure AnalysisTables where
  channels : Table (Option ChannelEntry) 48
  groups : Table (Option GroupFields) 8
  profiles : Table (Option ProfileFields) 8
  binSets : Table (Option BinFields) 4
  pods : Table (Option PodEntry) 12

/-- R6: the analysis tables of a state. -/
def State.tables (s : State) : AnalysisTables :=
  ⟨s.survey.channels, s.survey.groups, s.events.profiles, s.harmonics.binSets, s.pods.table⟩

theorem State.tables_eq_iff {s t : State} :
    t.tables = s.tables ↔
      t.survey.channels = s.survey.channels ∧ t.survey.groups = s.survey.groups ∧
      t.events.profiles = s.events.profiles ∧ t.harmonics.binSets = s.harmonics.binSets ∧
      t.pods.table = s.pods.table :=
  AnalysisTables.mk.injEq .. |> iff_of_eq

@[simp] theorem State.mapRing_tables (f : Ring → Ring) (s : State) : (s.mapRing f).tables = s.tables := rfl
@[simp] theorem State.mapTrackers_tables (f : Table Tracker 8 → Table Tracker 8) (s : State) :
    (s.mapTrackers f).tables = s.tables := rfl
@[simp] theorem State.mapNotes_tables (f : Notes → Notes) (s : State) : (s.mapNotes f).tables = s.tables := rfl
@[simp] theorem State.mapPrinter_tables (f : Printer → Printer) (s : State) : (s.mapPrinter f).tables = s.tables := rfl
@[simp] theorem State.mapLink_tables (f : Link → Link) (s : State) : (s.mapLink f).tables = s.tables := rfl

@[simp] theorem State.mapSurvey_tables {f : Survey → Survey} (channels : ∀ x, (f x).channels = x.channels)
    (groups : ∀ x, (f x).groups = x.groups) (s : State) : (s.mapSurvey f).tables = s.tables := by
  simp [State.tables_eq_iff, channels, groups]

@[simp] theorem State.mapPods_tables {f : Pods → Pods} (table : ∀ x, (f x).table = x.table) (s : State) :
    (s.mapPods f).tables = s.tables := by simp [State.tables_eq_iff, table]

theorem State.withEvents_tables {s : State} {x : Events} (profiles : x.profiles = s.events.profiles) :
    ({ s with events := x } : State).tables = s.tables := by simp [State.tables_eq_iff, profiles]

@[simp] theorem State.mapEvents_tables {f : Events → Events} (profiles : ∀ x, (f x).profiles = x.profiles) (s : State) :
    (s.mapEvents f).tables = s.tables := State.withEvents_tables (profiles s.events)

theorem State.withHarmonics_tables {s : State} {x : Harmonics} (binSets : x.binSets = s.harmonics.binSets) :
    ({ s with harmonics := x } : State).tables = s.tables := by simp [State.tables_eq_iff, binSets]

@[simp] theorem State.mapHarmonics_tables {f : Harmonics → Harmonics} (binSets : ∀ x, (f x).binSets = x.binSets)
    (s : State) : (s.mapHarmonics f).tables = s.tables := State.withHarmonics_tables (binSets s.harmonics)

/-- What each step of a fold leaves alone, the fold leaves alone. -/
theorem foldl_keeps {σ α β : Type} (view : σ → β) {f : σ → α → σ} (h : ∀ x a, view (f x a) = view x) (l : List α)
    (x : σ) : view (l.foldl f x) = view x :=
  List.foldlRecOn (motive := fun y => view y = view x) l f rfl fun y hy a _ => (h y a).trans hy

/-! ## Shared operations -/

@[simp] theorem State.offer_tables (b : NoticeBody) (s : State) : (s.offer b).tables = s.tables := rfl
@[simp] theorem State.fill_tables (tag code : Byte) (r : ResultCode) (data : List Byte) (s : State) :
    (s.fill tag code r data).tables = s.tables := rfl
@[simp] theorem State.fillReserved_tables (r : ResultCode) (data : List Byte) (s : State) :
    (s.fillReserved r data).tables = s.tables := rfl
@[simp] theorem State.ringNotice_tables (cause : RingCause) (s : State) : (s.ringNotice cause).tables = s.tables := rfl
@[simp] theorem State.enterSearch_tables (cause : RingCause) (s : State) : (s.enterSearch cause).tables = s.tables := rfl
@[simp] theorem State.moveSurvey_tables (next : SurveyState) (cause : SurveyCause) (s : State) :
    (s.moveSurvey next cause).tables = s.tables := rfl
@[simp] theorem State.mapPod_tables (p : Pos) (f : PodRecord → PodRecord) (s : State) :
    (s.mapPod p f).tables = s.tables := rfl
@[simp] theorem State.podNotice_tables (p : Pos) (previous : PodState) (cause : PodCause) (s : State) :
    (s.podNotice p previous cause).tables = s.tables := rfl
@[simp] theorem State.movePod_tables (p : Pos) (next : PodState) (cause : PodCause) (s : State) :
    (s.movePod p next cause).tables = s.tables := rfl
@[simp] theorem State.withdrawJoins_tables (p : Pos) (s : State) : (s.withdrawJoins p).tables = s.tables := rfl
@[simp] theorem State.powerUp_tables (p : Pos) (cause : PodCause) (s : State) : (s.powerUp p cause).tables = s.tables := rfl
@[simp] theorem State.startJoin_tables (p : Pos) (s : State) : (s.startJoin p).tables = s.tables := rfl
@[simp] theorem State.joinUnreachable_tables (p : Pos) (s : State) : (s.joinUnreachable p).tables = s.tables := rfl
@[simp] theorem State.cyclePod_tables (p : Pos) (s : State) : (s.cyclePod p).tables = s.tables := rfl

@[simp] theorem State.placeJoin_tables (s : State) : s.placeJoin.tables = s.tables := by
  rw [State.placeJoin_eq]; rfl

@[simp] theorem State.latch_tables (cause : SnapshotCause) (position : Option Pos) (s : State) :
    (s.latch cause position).tables = s.tables := by
  obtain ⟨_, -, same⟩ | ⟨-, taken⟩ := s.latch_cases cause position
  · rw [same]
  · rw [taken]; rfl

@[simp] theorem State.fatalWith_tables (p : Pos) (named : OffReason) (causes : List OffReason) (s : State) :
    (s.fatalWith p named causes).tables = s.tables := by simp [State.fatalWith]

@[simp] theorem State.fatal_tables (p : Pos) (r : OffReason) (s : State) : (s.fatal p r).tables = s.tables :=
  State.fatalWith_tables ..

@[simp] theorem State.rejoin_tables (p : Pos) (cause : PodCause) (s : State) : (s.rejoin p cause).tables = s.tables := by
  unfold State.rejoin
  rw [State.startJoin_tables]
  split <;> simp

@[simp] theorem State.drained_tables (p : Pos) (kind : SequenceKind) (s : State) :
    (s.drained p kind).tables = s.tables := by
  cases kind with
  | commanded | release => rfl
  | policy =>
    simp only [State.drained]
    split
    · simp
    · split <;> simp

@[simp] theorem State.enterDrainWait_tables (p : Pos) (kind : SequenceKind) (s : State) :
    (s.enterDrainWait p kind).tables = s.tables := by
  unfold State.enterDrainWait
  dsimp only
  split <;> simp

@[simp] theorem State.testDrained_tables (s : State) : s.testDrained.tables = s.tables := by
  unfold State.testDrained
  split <;> simp

/-! ## Notes

The equations on profiles and bin sets are proved by `(rfl)`: simp then rewrites with them, where it would use one proved by a
bare `rfl` as a definitional step, with which it cannot close the side condition of `State.mapEvents_tables`. -/

@[simp] theorem Events.mapKeeps_profiles (n : Nat) (f : Nat → Nat) (x : Events) :
    (x.mapKeeps n f).profiles = x.profiles := (rfl)

@[simp] theorem State.judgeKeep_tables (n : Nat) (s : State) : (s.judgeKeep n).1.tables = s.tables := by
  unfold State.judgeKeep
  split
  · simp
  · split <;> simp

@[simp] theorem State.releaseKeep_tables (link : Option SagLink) (s : State) :
    (s.releaseKeep link).tables = s.tables := by
  unfold State.releaseKeep
  split <;> simp

@[simp] theorem State.newLink_tables (sag : Option Nat) (s : State) : (s.newLink sag).1.tables = s.tables := by
  cases sag with
  | none => rfl
  | some n => exact State.judgeKeep_tables n s

@[simp] theorem State.amendLink_tables (old : Option SagLink) (arg : LinkArg) (s : State) :
    (s.amendLink old arg).1.tables = s.tables := by
  cases arg with
  | leftOut => rfl
  | none => exact State.releaseKeep_tables old s
  | given n =>
    simp only [State.amendLink]
    split <;> simp

@[simp] theorem State.podMark_tables (p : Pos) (s : State) : (s.podMark p).tables = s.tables := by
  unfold State.podMark
  dsimp only
  split
  · rfl
  · split <;> simp

/-! ## The ring and the joins -/

@[simp] theorem State.compareJoin_tables (p : Pos) (s : State) : (s.compareJoin p).tables = s.tables := by
  unfold State.compareJoin
  split <;> simp

@[simp] theorem State.joinOutcome_tables (t : Transaction) (o : TxOutcome) (s : State) :
    (s.joinOutcome t o).tables = s.tables := by
  unfold State.joinOutcome
  dsimp only
  split
  · rfl
  · cases o with
    | withdrawn => rfl
    | refused _ => simp
    | noAnswer => dsimp only; split <;> simp
    | answered v =>
      dsimp only
      split
      · simp
      · split
        · rfl
        · split <;> simp

@[simp] theorem State.hostOutcome_tables (t : Transaction) (o : TxOutcome) (s : State) :
    (s.hostOutcome t o).tables = s.tables := by
  cases o with
  | answered v =>
    simp only [State.hostOutcome]
    split <;> simp
  | refused _ | noAnswer | withdrawn => rfl

@[simp] theorem State.endTransaction_tables (t : Transaction) (o : TxOutcome) (s : State) :
    (s.endTransaction t o).tables = s.tables := by
  unfold State.endTransaction
  rw [State.placeJoin_tables]
  split <;> simp

@[simp] theorem State.takeAnswer_tables (frame : List Byte) (s : State) : (s.takeAnswer frame).tables = s.tables := by
  unfold State.takeAnswer
  split
  · rfl
  · split <;> simp

@[simp] theorem State.setLatches_tables (s : State) : s.setLatches.tables = s.tables := rfl

@[simp] theorem State.presentEffects_tables (p : Pos) (status : BitVec 16) (s : State) :
    (s.presentEffects p status).tables = s.tables := by
  unfold State.presentEffects
  split
  · simp
  · split
    · simp
    · split
      · simp
      · split
        · simp
        · split <;> simp
        · rfl

@[simp] theorem State.applyPresent_tables (p : Pos) (status : BitVec 16) (s : State) :
    (s.applyPresent p status).tables = s.tables := by
  simp only [State.applyPresent, State.presentEffects_tables]
  split <;> split <;> simp

@[simp] theorem State.applyReport_tables (p : Pos) (rep : Report) (s : State) :
    (s.applyReport p rep).tables = s.tables := by
  unfold State.applyReport
  cases rep.status with
  | none => dsimp only; split <;> simp
  | some status => dsimp only; split <;> split <;> simp

@[simp] theorem State.applyReports_tables (s : State) : s.applyReports.tables = s.tables :=
  foldl_keeps State.tables (fun s p => by split <;> simp) _ s

@[simp] theorem State.joinsUnreachable_tables (s : State) : s.joinsUnreachable.tables = s.tables :=
  foldl_keeps State.tables (fun s p => by split <;> simp) _ s

@[simp] theorem State.settle_tables (tf tr : Nat) (s : State) : (s.settle tf tr).tables = s.tables := by
  simp [State.settle]

@[simp] theorem State.judgeProbe_tables (w : Sweep) (s : State) : (s.judgeProbe w).tables = s.tables := by
  unfold State.judgeProbe
  dsimp only
  split
  · rfl
  · split <;> simp
  · split <;> simp
  · simp
  · split <;> simp

@[simp] theorem State.heal_tables (s : State) : s.heal.tables = s.tables := rfl

@[simp] theorem State.judgeSweeps_tables (s : State) : s.judgeSweeps.tables = s.tables := by
  unfold State.judgeSweeps
  dsimp only
  split
  · simp
  · split
    · split <;> simp
    · split <;> simp
    · split <;> simp
    · simp
    · simp

@[simp] theorem State.downRetry_tables (s : State) : s.downRetry.tables = s.tables := by
  unfold State.downRetry
  split <;> simp

@[simp] theorem State.transactionTimeout_tables (s : State) : s.transactionTimeout.tables = s.tables := by
  unfold State.transactionTimeout
  split
  · rfl
  · split <;> simp

/-! ## The pods -/

@[simp] theorem State.poweringTimeout_tables (p : Pos) (s : State) : (s.poweringTimeout p).tables = s.tables := by
  unfold State.poweringTimeout
  split <;> simp

@[simp] theorem State.silenceLimit_tables (p : Pos) (s : State) : (s.silenceLimit p).tables = s.tables := by
  unfold State.silenceLimit
  split <;> simp

@[simp] theorem State.offTimerExpiry_tables (p : Pos) (s : State) : (s.offTimerExpiry p).tables = s.tables := by
  unfold State.offTimerExpiry
  split
  · split <;> simp
  · rfl

@[simp] theorem State.feedStuck_tables (p : Pos) (s : State) : (s.feedStuck p).tables = s.tables := by
  simp [State.feedStuck]

@[simp] theorem State.drainWaitTimeout_tables (p : Pos) (s : State) : (s.drainWaitTimeout p).tables = s.tables := by
  unfold State.drainWaitTimeout
  split
  · split <;> simp
  · rfl

@[simp] theorem State.cooldownExpiry_tables (p : Pos) (s : State) : (s.cooldownExpiry p).tables = s.tables := by
  unfold State.cooldownExpiry
  split <;> simp

@[simp] theorem State.quietPeriod_tables (p : Pos) (s : State) : (s.quietPeriod p).tables = s.tables := by
  unfold State.quietPeriod
  split <;> simp

@[simp] theorem State.releasePod_tables (p : Pos) (s : State) : (s.releasePod p).tables = s.tables := by
  unfold State.releasePod
  dsimp only
  split <;> simp

/-! ## The Event Detector: the profiles -/

theorem Events.evict_profiles {x y : Events} (h : x.evict = some y) : y.profiles = x.profiles := by
  obtain ⟨e, -, rfl⟩ := Option.map_eq_some_iff.mp h
  rfl

@[simp] theorem Events.takePage_profiles (fuel : Nat) (x : Events) : (x.takePage fuel).2.profiles = x.profiles := by
  induction fuel generalizing x with
  | zero => unfold Events.takePage; split <;> rfl
  | succ fuel ih =>
    unfold Events.takePage
    split
    · rfl
    · split
      · rename_i same evicted
        cases same
        rw [ih, Events.evict_profiles evicted]
      · rfl

@[simp] theorem writeRow_profiles (m : Nat) (wx : Writing × Events) : (writeRow m wx).2.profiles = wx.2.profiles := by
  obtain ⟨w, x⟩ := wx
  have page := Events.takePage_profiles x.sags.length x
  unfold writeRow
  dsimp only
  split
  · rfl
  · split
    · rfl
    · generalize x.takePage x.sags.length = taken at page ⊢
      obtain ⟨p | p, y⟩ := taken <;> exact page

@[simp] theorem Capture.write_profiles (rows : List (List Int)) (m : Nat) (c : Capture) (x : Events) :
    (c.write rows m x).2.2.profiles = x.profiles :=
  foldl_keeps (fun wx : Writing × Events => wx.2.profiles) (fun wx _ => writeRow_profiles m wx) rows _

@[simp] theorem Event.writePre_profiles (rows : List (List Int)) (m : Nat) (e : Event) (x : Events) :
    (e.writePre rows m x).2.profiles = x.profiles := Capture.write_profiles rows m e.capture x

@[simp] theorem Event.writeBody_profiles (limit : Nat) (rows : List (List Int)) (m : Nat) (e : Event) (x : Events) :
    (e.writeBody limit rows m x).2.profiles = x.profiles := by
  unfold Event.writeBody
  split
  · split
    · exact Capture.write_profiles rows m e.capture x
    · split <;> rfl
  · rfl

@[simp] theorem Event.writePost_profiles (rows : List (List Int)) (m : Nat) (e : Event) (x : Events) :
    (e.writePost rows m x).2.profiles = x.profiles := by
  unfold Event.writePost
  split
  · exact Capture.write_profiles rows m e.capture x
  · rfl

theorem Events.claim_profiles {n : Nat} {x y : Events} (h : x.claim n = some y) : y.profiles = x.profiles := by
  unfold Events.claim at h
  dsimp only at h
  split at h
  · cases h; rfl
  · obtain ⟨z, evicted, rfl⟩ := Option.map_eq_some_iff.mp h
    exact (Events.evict_profiles evicted :)

@[simp] theorem Events.openEvent_profiles (x : Events) : x.openEvent.1.profiles = x.profiles := by
  unfold Events.openEvent
  dsimp only
  split
  · split
    · rename_i claimed
      exact (Events.claim_profiles claimed :)
    · rfl
  · rfl

@[simp] theorem startEvent_profiles (w : BoundaryWork) (gx : GroupWork) :
    (startEvent w gx).2.profiles = gx.2.profiles := by
  unfold startEvent
  dsimp only
  split <;> split <;> simp [Events.markFirst]

@[simp] theorem completeEvent_profiles (id : GroupId) (next : MachineState) (gx : GroupWork) :
    (completeEvent id next gx).2.profiles = gx.2.profiles := by
  unfold completeEvent
  dsimp only
  split
  · split <;> rfl
  · rfl

@[simp] theorem openPost_profiles (id : GroupId) (post : Nat) (gx : GroupWork) :
    (openPost id post gx).2.profiles = gx.2.profiles := by
  unfold openPost
  split
  · rfl
  · split <;> simp

@[simp] theorem activeBoundary_profiles (id : GroupId) (w : BoundaryWork) (e : Event) (gx : GroupWork) :
    (activeBoundary id w e gx).2.profiles = gx.2.profiles := by
  unfold activeBoundary
  dsimp only
  split
  · simp
  · split <;> simp

@[simp] theorem postBoundary_profiles (id : GroupId) (w : BoundaryWork) (e : Event) (gx : GroupWork) :
    (postBoundary id w e gx).2.profiles = gx.2.profiles := by
  unfold postBoundary
  dsimp only
  split
  · simp
  · split <;> simp

@[simp] theorem machineBoundary_profiles (id : GroupId) (w : BoundaryWork) (gx : GroupWork) :
    (machineBoundary id w gx).2.profiles = gx.2.profiles := by
  unfold machineBoundary
  split
  · split <;> simp
  · simp
  · simp
  · split <;> rfl
  · rfl
  · rfl

@[simp] theorem closeGroupEvents_profiles (id : GroupId) (stop : Nat) (gx : GroupWork) :
    (closeGroupEvents id stop gx).2.profiles = gx.2.profiles := by
  unfold closeGroupEvents
  dsimp only
  split <;> simp

@[simp] theorem discardGroup_profiles (gx : GroupWork) : (discardGroup gx).2.profiles = gx.2.profiles := by
  unfold discardGroup
  dsimp only
  split <;> rfl

@[simp] theorem Events.putGroup_profiles (n : Grp) (gx : GroupWork) : (putGroup n gx).profiles = gx.2.profiles := (rfl)

@[simp] theorem Events.restart_profiles (x : Events) : x.restart.profiles = x.profiles :=
  foldl_keeps Events.profiles (fun x n => by simp) _ x

@[simp] theorem Events.setStatus_profiles (n : Nat) (st : SagStatus) (x : Events) :
    (x.setStatus n st).profiles = x.profiles := (rfl)

@[simp] theorem Events.openGroup_profiles (n : Grp) (voltage pages : Nat) (x : Events) :
    (x.openGroup n voltage pages).profiles = x.profiles := (rfl)

@[simp] theorem State.eventBoundary_tables (n : Grp) (g : GroupFields) (b : Boundary) (s : State) :
    (s.eventBoundary n g b).tables = s.tables := by
  unfold State.eventBoundary
  split
  · exact State.withEvents_tables (machineBoundary_profiles ..)
  · rfl

@[simp] theorem State.eventPush_tables (n : Grp) (g : GroupFields) (s : State) : (s.eventPush n g).tables = s.tables := rfl

@[simp] theorem State.eventSample_tables (n : Grp) (g : GroupFields) (s : State) :
    (s.eventSample n g).tables = s.tables := by
  unfold State.eventSample
  split
  · rfl
  · split <;> rfl

@[simp] theorem State.closeEvents_tables (n : Grp) (g : GroupFields) (s : State) :
    (s.closeEvents n g).tables = s.tables :=
  State.withEvents_tables (closeGroupEvents_profiles ..)

@[simp] theorem State.emitSag_tables (e : SagEntry) (again : Bool) (r : SagRecord) (k : Nat) (s : State) :
    (s.emitSag e again r k).tables = s.tables := by
  unfold State.emitSag
  dsimp only
  split <;> simp

/-! ## The Harmonic Analyser: the bin sets -/

@[simp] theorem Harmonics.mapGroup_binSets (n : Grp) (f : GroupHarmonics → GroupHarmonics) (x : Harmonics) :
    (x.mapGroup n f).binSets = x.binSets := (rfl)
@[simp] theorem Harmonics.mapEntry_binSets (n : Nat) (f : IntervalEntry → IntervalEntry) (x : Harmonics) :
    (x.mapEntry n f).binSets = x.binSets := (rfl)
@[simp] theorem Harmonics.lose_binSets (x : Harmonics) : x.lose.binSets = x.binSets := (rfl)
@[simp] theorem Harmonics.restart_binSets (x : Harmonics) : x.restart.binSets = x.binSets := (rfl)

theorem Harmonics.claim_binSets {r : IntervalRecord} {x y : Harmonics} (h : x.claim r = some y) :
    y.binSets = x.binSets := by
  unfold Harmonics.claim at h
  dsimp only at h
  split at h
  · cases h; rfl
  · obtain ⟨e, -, rfl⟩ := Option.map_eq_some_iff.mp h
    rfl

@[simp] theorem State.emitDirect_tables (r : IntervalRecord) (s : State) : (s.emitDirect r).tables = s.tables := by
  unfold State.emitDirect
  dsimp only
  split <;> simp

@[simp] theorem State.issueInterval_tables (r : IntervalRecord) (s : State) : (s.issueInterval r).tables = s.tables := by
  unfold State.issueInterval
  split
  · dsimp only
    split
    · rename_i claimed
      exact State.withHarmonics_tables (Harmonics.claim_binSets claimed)
    · simp
  · simp

@[simp] theorem State.closeInterval_tables (n : Grp) (g : GroupFields) (bins : BinFields) (stop period : Nat)
    (isPartial : Bool) (s : State) : (s.closeInterval n g bins stop period isPartial).tables = s.tables := by
  simp [State.closeInterval]

@[simp] theorem State.settleCycle_tables (n : Grp) (g : GroupFields) (bins : BinFields) (period : Nat) (s : State) :
    (s.settleCycle n g bins period).tables = s.tables := by
  unfold State.settleCycle
  split
  · rfl
  · dsimp only
    split <;> simp

@[simp] theorem State.harmonicBoundary_tables (n : Grp) (g : GroupFields) (b : Boundary) (s : State) :
    (s.harmonicBoundary n g b).tables = s.tables := by
  unfold State.harmonicBoundary
  split <;> simp

@[simp] theorem State.harmonicPush_tables (n : Grp) (g : GroupFields) (s : State) :
    (s.harmonicPush n g).tables = s.tables := by
  unfold State.harmonicPush
  split <;> simp

@[simp] theorem State.harmonicSample_tables (n : Grp) (g : GroupFields) (s : State) :
    (s.harmonicSample n g).tables = s.tables := by
  unfold State.harmonicSample
  split
  · rfl
  · split
    · rfl
    · split <;> simp

@[simp] theorem State.closeHarmonics_tables (n : Grp) (g : GroupFields) (s : State) :
    (s.closeHarmonics n g).tables = s.tables := by
  unfold State.closeHarmonics
  split
  · rfl
  · dsimp only
    split <;> simp

@[simp] theorem State.emitInterval_tables (e : IntervalEntry) (k : Nat) (s : State) :
    (s.emitInterval e k).tables = s.tables := by
  simp [State.emitInterval, apply_ite State.tables]

/-! ## Boundaries and the survey -/

@[simp] theorem State.takeDecision_tables (n : Grp) (g : GroupFields) (d : Decision) (s : State) :
    (s.takeDecision n g d).tables = s.tables := by
  have offered (s : State) : (d.notices.foldl (fun s b => s.offer b) s).tables = s.tables :=
    foldl_keeps State.tables (fun s b => State.offer_tables b s) _ s
  unfold State.takeDecision
  dsimp only
  split <;> simp [offered]

@[simp] theorem State.takeSamples_tables (n : Grp) (g : GroupFields) (s : State) :
    (s.takeSamples n g).tables = s.tables := by simp [State.takeSamples]

@[simp] theorem State.placeBoundary_tables (kind : DueKind) (n : Grp) (s : State) :
    (s.placeBoundary kind n).tables = s.tables := by
  unfold State.placeBoundary
  split
  · rfl
  · split <;> simp

@[simp] theorem State.placeBoundaries_tables (s : State) : s.placeBoundaries.tables = s.tables :=
  foldl_keeps State.tables (fun s n => by simp [State.flushGroup]) _ s

@[simp] theorem State.openEvents_tables (s : State) : s.openEvents.tables = s.tables :=
  State.mapEvents_tables (fun x => foldl_keeps Events.profiles (fun _ _ => Events.openGroup_profiles ..) _ x.emptied) s

@[simp] theorem State.openHarmonics_tables (s : State) : s.openHarmonics.tables = s.tables := rfl

@[simp] theorem State.openTrackers_tables (s : State) : s.openTrackers.tables = s.tables := rfl

@[simp] theorem State.openWith_tables (f : OpenFields) (s : State) : (s.openWith f).tables = s.tables := by
  simp [State.openWith]

@[simp] theorem State.closeSteps_tables (s : State) : s.closeSteps.tables = s.tables :=
  (State.mapSurvey_tables (fun _ => rfl) (fun _ => rfl) _).trans
    (foldl_keeps State.tables (fun s k => by simp) _ s)

/-! ## Report printing -/

@[simp] theorem State.pin_tables (j : Job) (f : Nat → Nat) (s : State) : (s.pin j f).tables = s.tables := rfl
@[simp] theorem State.removeJob_tables (j : Job) (ending : JobEnding) (s : State) :
    (s.removeJob j ending).tables = s.tables := rfl
@[simp] theorem State.endJob_tables (j : Job) (ending : JobEnding) (s : State) :
    (s.endJob j ending).tables = s.tables := rfl
@[simp] theorem State.hold_tables (reason : HeldReason) (j : Job) (s : State) : (s.hold reason j).tables = s.tables := rfl

@[simp] theorem State.complete_tables (j : Job) (s : State) : (s.complete j).tables = s.tables := by
  unfold State.complete
  dsimp only
  split <;> simp

@[simp] theorem State.updateStatus_tables (f : Printer → Printer) (s : State) : (s.updateStatus f).tables = s.tables := by
  unfold State.updateStatus
  dsimp only
  split
  · simp
  · rfl

@[simp] theorem State.notAnswering_tables (s : State) : s.notAnswering.tables = s.tables := State.updateStatus_tables _ s

@[simp] theorem State.judgeMessage_tables (st : PrinterStatus) (j : Job) (s : State) :
    (s.judgeMessage st j).tables = s.tables := by
  unfold State.judgeMessage
  split
  · simp
  · split
    · simp
    · split
      · simp
      · split <;> simp

@[simp] theorem State.resume_tables (j : Job) (s : State) : (s.resume j).tables = s.tables := by
  unfold State.resume
  split <;> simp

@[simp] theorem State.judgeHeld_tables (st : PrinterStatus) (j : Job) (s : State) :
    (s.judgeHeld st j).tables = s.tables := by
  unfold State.judgeHeld
  split
  · simp
  · split
    · simp
    · split
      · simp
      · split <;> simp

@[simp] theorem State.judgeCancelled_tables (st : PrinterStatus) (j : Job) (s : State) :
    (s.judgeCancelled st j).tables = s.tables := by
  unfold State.judgeCancelled
  split <;> simp

@[simp] theorem State.noReply_tables (j : Job) (s : State) : (s.noReply j).tables = s.tables := by
  unfold State.noReply
  dsimp only
  split
  · simp
  · split <;> simp

@[simp] theorem State.replyTimeout_tables (s : State) : s.replyTimeout.tables = s.tables := by
  have abandoned (j : Job) :
      (if j.cancel then s.notAnswering.endJob j .cancelledHost else s.notAnswering.noReply j).tables = s.tables := by
    split <;> simp
  unfold State.replyTimeout
  split
  · split
    · exact abandoned _
    · rfl
  · split
    · exact abandoned _
    · rfl
  · split
    · split <;> simp
    · rfl
  · split <;> simp
  · rfl

@[simp] theorem State.retryInterval_tables (s : State) : s.retryInterval.tables = s.tables := by
  unfold State.retryInterval
  split
  · split <;> simp
  · rfl

@[simp] theorem State.pollDelay_tables (s : State) : s.pollDelay.tables = s.tables := by
  unfold State.pollDelay
  split
  · split <;> simp
  · rfl

@[simp] theorem State.heldPoll_tables (s : State) : s.heldPoll.tables = s.tables := by
  unfold State.heldPoll
  split
  · split <;> simp
  · rfl

@[simp] theorem State.printCooldown_tables (s : State) : s.printCooldown.tables = s.tables := by
  unfold State.printCooldown
  split
  · split <;> simp
  · rfl

@[simp] theorem State.heldLimit_tables (s : State) : s.heldLimit.tables = s.tables := by
  unfold State.heldLimit
  split
  · rfl
  · split <;> simp

@[simp] theorem State.cancelAll_tables (s : State) : s.cancelAll.tables = s.tables := by
  have removed (l : List Job) : (l.foldl (fun s j => s.removeJob j .cancelledRestart) s).tables = s.tables :=
    foldl_keeps State.tables (fun s j => State.removeJob_tables j _ s) l s
  simp [State.cancelAll, removed]

/-! ## Ticks and RESTART -/

@[simp] theorem State.formSamples_tables (s : State) : s.formSamples.tables = s.tables := rfl

@[simp] theorem State.closeGroup_tables (s : State) (k : Grp × GroupFields) : (s.closeGroup k).tables = s.tables := by
  unfold State.closeGroup
  dsimp only
  split <;> simp

@[simp] theorem State.analyse_tables (s : State) : s.analyse.tables = s.tables := by
  unfold State.analyse
  split
  · exact foldl_keeps State.tables State.closeGroup_tables _ s
  · rfl

@[simp] theorem State.tickClose_tables (s : State) : s.tickClose.tables = s.tables := by simp [State.tickClose]

@[simp] theorem State.flushPod_tables (s : State) (p : Pos) : (s.flushPod p).tables = s.tables := by
  simp [State.flushPod]

@[simp] theorem State.flush_tables (s : State) : s.flush.tables = s.tables := by
  have pods (s : State) : ((indexes 12).foldl State.flushPod s).tables = s.tables :=
    foldl_keeps State.tables State.flushPod_tables _ s
  simp [State.flush, pods]

@[simp] theorem State.tickBegin_tables (s : State) : s.tickBegin.tables = s.tables := rfl

@[simp] theorem State.restartSurvey_tables (s : State) : s.restartSurvey.tables = s.tables := by
  unfold State.restartSurvey
  dsimp only
  split <;> simp

@[simp] theorem State.restartRing_tables (s : State) : s.restartRing.tables = s.tables := by
  unfold State.restartRing
  dsimp only
  split <;> simp

@[simp] theorem State.restartPods_tables (s : State) : s.restartPods.tables = s.tables := by
  have cycled (s : State) :
      ((indexes 12).foldl (fun s p => if (s.pod p).state = .disabled then s else s.cyclePod p) s).tables = s.tables :=
    foldl_keeps State.tables (fun s p => by split <;> simp) _ s
  simp [State.restartPods, cycled]

@[simp] theorem State.clearCounters_tables (s : State) : s.clearCounters.tables = s.tables := rfl

end Sys2Proof.Machine
end

section
/-! What the commands do to the analysis tables: a directive that is taken changes them by its owner alone, a locked load has
no effect but its reply, and no other command but HARDWARE_RESET changes an entry. -/

namespace Sys2Proof.Machine

/-! ## The lock of a load (R5, R6) -/

/-- R5: the lock is the first check, and no later one answers LOCKED. -/
theorem loadChecks_eq_locked_iff {α : Type} {n index : Nat} {locked : Bool} {fields : Option α}
    {ranges cross : α → List (Bool × Nat)} {data : List Byte} :
    loadChecks n locked index fields ranges cross = .refused .locked data ↔ locked = true ∧ data = [] := by
  cases locked with
  | true => simp [loadChecks, eq_comm]
  | false =>
    unfold loadChecks
    cases ofNumber n index with
    | none => simp
    | some i =>
      cases fields with
      | none => simp
      | some f =>
        dsimp only
        cases firstBad (ranges f) with
        | some field => simp
        | none => cases firstBad (cross f) <;> simp

/-- R6: a load under the survey lock is refused by the first check. -/
theorem loadChecks_surveyLock {α : Type} {n index : Nat} {fields : Option α} {ranges cross : α → List (Bool × Nat)}
    {s : State} (h : s.survey.state ≠ .closed) :
    loadChecks n s.surveyLock index fields ranges cross = .refused .locked [] :=
  loadChecks_eq_locked_iff.mpr ⟨decide_eq_true h, rfl⟩

section
variable {s : State} (h : s.survey.state ≠ .closed)
include h

theorem loadChannel_locked (k : Nat) (f : Option ChannelFields) : loadChannel k f s = refuse .locked [] s := by
  rw [loadChannel, loadChecks_surveyLock h]

theorem loadGroup_locked (k : Nat) (f : Option GroupFields) : loadGroup k f s = refuse .locked [] s := by
  rw [loadGroup, loadChecks_surveyLock h]

theorem loadProfile_locked (k : Nat) (f : Option ProfileFields) : loadProfile k f s = refuse .locked [] s := by
  rw [loadProfile, loadChecks_surveyLock h]

theorem loadBins_locked (k : Nat) (f : Option BinFields) : loadBins k f s = refuse .locked [] s := by
  rw [loadBins, loadChecks_surveyLock h]

theorem loadPod_locked (k : Nat) (f : Option PodFields) : loadPod k f s = refuse .locked [] s := by
  rw [loadPod, loadChecks_surveyLock h]

end

/-- R177, R179: a taken directive that its owner refuses as locked. -/
theorem handle_locked {s u : State} {tag : Byte} {d : Directive} {owner : State → Answer} (taken : Takes s tag d u)
    (locked : owner u = refuse .locked [] u) :
    handle tag d owner s = .next (replied tag (codeDirective d) .locked [] u) := by
  rw [handle_of_takes taken, locked]
  rfl

/-! ## LOAD-TEMPLATE -/

theorem Printer.usesTemplate_iff {k : Nat} {x : Printer} :
    x.usesTemplate k = true ↔ ∃ j ∈ x.jobs, j.template = k := by simp [Printer.usesTemplate]

/-- R6: LOAD-TEMPLATE answers LOCKED for no other reason than a live job. -/
theorem loadTemplate_answer (k : Nat) (f : Option TemplateFields) (s : State) :
    ∃ v r data, loadTemplate k f s = (v, some (r, data)) ∧ (r = .locked ↔ s.printer.usesTemplate k = true) := by
  unfold loadTemplate
  cases verdict : loadChecks 4 (s.printer.usesTemplate k) k f templateRanges noCross with
  | refused r data =>
    refine ⟨_, r, data, rfl, fun locked => ?_, fun uses => ?_⟩
    · exact (loadChecks_eq_locked_iff.mp (locked ▸ verdict)).1
    · rw [loadChecks_eq_locked_iff.mpr ⟨uses, rfl⟩] at verdict
      cases verdict
      rfl
  | taken i g =>
    refine ⟨_, _, _, rfl, fun locked => (nomatch locked), fun uses => ?_⟩
    rw [loadChecks_eq_locked_iff.mpr ⟨uses, rfl⟩] at verdict
    cases verdict

theorem loadTemplate_locked {k : Nat} {f : Option TemplateFields} {s : State} (h : s.printer.usesTemplate k = true) :
    loadTemplate k f s = refuse .locked [] s := by
  rw [loadTemplate, loadChecks_eq_locked_iff.mpr ⟨h, rfl⟩]

/-- R179: two equal replies carry the same result. -/
theorem replied_result {tag tag' code code' : Byte} {r r' : ResultCode} {data data' : List Byte} {s s' : State}
    (h : replied tag code r data s = replied tag' code' r' data' s') : r = r' := by
  have last := congrArg (fun t : State => t.link.replies.getLast?.map Reply.result) h
  simpa [replied] using last

/-- R6: a taken LOAD-TEMPLATE is answered LOCKED exactly while a live job uses the template. -/
theorem loadTemplate_locked_iff {s u : State} {tag : Byte} {k : Nat} {f : Option TemplateFields}
    (taken : Takes s tag (.loadTemplate k f) u) :
    (∃ j ∈ u.printer.jobs, j.template = k) ↔
      exec (.loadTemplate tag k f) s = .next (replied tag 0x06 .locked [] u) := by
  rw [← Printer.usesTemplate_iff]
  constructor
  · exact fun uses => handle_locked taken (loadTemplate_locked uses)
  · intro answered
    obtain ⟨v, r, data, answer, locked_iff⟩ := loadTemplate_answer k f u
    have run : exec (.loadTemplate tag k f) s = .next (replied tag 0x06 r data v) := by
      change handle tag (.loadTemplate k f) (loadTemplate k f) s = _
      rw [handle_of_takes taken, answer]
      rfl
    exact locked_iff.mp (replied_result (Host.Outcome.next.inj (run.symm.trans answered)))

/-! ## Commands that keep the tables -/

/-- A command's answer from a state, if it is a next state, has the analysis tables of that state. -/
def KeepsTables (s : State) (o : StepResult) : Prop := ∀ t, o = .next t → t.tables = s.tables

@[simp] theorem keepsTables_next {s t : State} : KeepsTables s (.next t) ↔ t.tables = s.tables :=
  ⟨fun h => h t rfl, fun h _ same => Host.Outcome.next.inj same ▸ h⟩

@[simp] theorem refuse_fst (r : ResultCode) (data : List Byte) (s : State) : (refuse r data s).1 = s := rfl
@[simp] theorem accept_fst (s : State) (data : List Byte) : (accept s data).1 = s := rfl

/-- R177: taking a directive changes the link alone. -/
theorem State.take_link {tag : Byte} {reads : List Byte → Bool} {s u : State} (h : s.take tag reads = some u) :
    ∃ f, u = s.mapLink f := by
  unfold State.take at h
  split at h
  · split at h
    · exact ⟨id, (Option.some.inj h).symm⟩
    · split at h
      · exact ⟨_, (Option.some.inj h).symm⟩
      · cases h
  · cases h

/-- R177: a directive keeps the tables when its owner does, in the survey state in which it is taken. -/
theorem handle_keepsTables {s : State} {tag : Byte} {d : Directive} {owner : State → Answer}
    (h : ∀ u, u.survey = s.survey → (owner u).1.tables = u.tables) : KeepsTables s (handle tag d owner s) := by
  unfold handle
  split
  · simp
  · rename_i u taken
    obtain ⟨f, rfl⟩ := State.take_link taken
    have owned := h _ (State.mapLink_survey f s)
    split <;> rename_i answer <;> rw [answer] at owned <;> simpa using owned

/-- R6: a load that the survey lock refuses keeps the tables. -/
theorem handle_keepsTables_of_locked {s : State} {tag : Byte} {d : Directive} {owner : State → Answer}
    (running : s.survey.state ≠ .closed)
    (locked : ∀ {u : State}, u.survey.state ≠ .closed → owner u = refuse .locked [] u) :
    KeepsTables s (handle tag d owner s) :=
  handle_keepsTables fun u same => by rw [locked (same ▸ running), refuse_fst]

/-! ## The directives -/

theorem loadTemplate_tables (k : Nat) (f : Option TemplateFields) (s : State) :
    (loadTemplate k f s).1.tables = s.tables := by
  unfold loadTemplate
  split <;> simp

theorem loadPrinter_tables (f : PrinterFields) (s : State) : (loadPrinter f s).1.tables = s.tables := by
  unfold loadPrinter
  split <;> simp

theorem loadLink_tables (g : Nat) (s : State) : (loadLink g s).1.tables = s.tables := by
  unfold loadLink
  split <;> simp

theorem readTable_tables (table index : Nat) (s : State) : (readTable table index s).1.tables = s.tables := by
  unfold readTable
  split <;> simp

theorem openSurvey_tables (f : OpenFields) (s : State) : (openSurvey f s).1.tables = s.tables := by
  unfold openSurvey
  split
  · simp
  · split
    · simp
    · split
      · simp
      · simp
      · dsimp only
        split <;> simp

theorem closeSurvey_tables (s : State) : (closeSurvey s).1.tables = s.tables := by
  unfold closeSurvey
  split <;> simp

theorem restart_tables (s : State) : (restart s).1.tables = s.tables := by simp [restart]

theorem setIdentity_tables (f : IdentityFields) (s : State) : (setIdentity f s).1.tables = s.tables := by
  unfold setIdentity
  split
  · simp
  · split
    · simp
    · split <;> simp

theorem addNote_tables (f : NoteFields) (s : State) : (addNote f s).1.tables = s.tables := by
  unfold addNote
  split
  · simp
  · split
    · simp
    · simp
    · simp
    · split
      · exact State.newLink_tables f.sag s
      · simp

theorem amend_tables (n : Nat) (old : Note) (f : AmendFields) (s : State) : (amend n old f s).1.tables = s.tables :=
  State.amendLink_tables old.sag f.sag s

theorem amendNote_tables (n : Nat) (f : AmendFields) (s : State) : (amendNote n f s).1.tables = s.tables := by
  unfold amendNote
  split
  · simp
  · split
    · simp
    · simp
    · simp
    · split
      · simp
      · split
        · exact amend_tables ..
        · simp

theorem withdrawNote_tables (n : Nat) (s : State) : (withdrawNote n s).1.tables = s.tables := by
  unfold withdrawNote
  split
  · simp
  · split
    · split
      · simp
      · split <;> simp
    · simp

theorem markDirective_tables (s : State) : (markDirective s).1.tables = s.tables := by
  unfold markDirective
  split
  · simp
  · split <;> simp

theorem readNote_tables (which : NoteSelector) (s : State) : (readNote which s).1.tables = s.tables := by
  cases which with
  | identity => rfl
  | note n =>
    simp only [readNote]
    split
    · split <;> simp
    · simp

theorem submitPrint_tables (f : SubmitFields) (s : State) : (submitPrint f s).1.tables = s.tables := by
  unfold submitPrint
  split
  · simp
  · split
    · simp
    · split <;> simp

theorem cancelPrint_tables (n : Nat) (s : State) : (cancelPrint n s).1.tables = s.tables := by
  unfold cancelPrint
  split
  · simp
  · split
    · simp
    · dsimp only
      split
      · simp
      · split <;> simp

theorem placeHost_tables (p : Pos) (op : TxOp) (parameter value : Nat) (tag code : Byte) (s : State) :
    (placeHost p op parameter value tag code s).1.tables = s.tables := by
  unfold placeHost
  split
  · simp
  · split <;> simp

theorem podRead_tables (tag : Byte) (position parameter : Nat) (s : State) :
    (podRead tag position parameter s).1.tables = s.tables := by
  unfold podRead
  split
  · simp
  · split
    · exact placeHost_tables ..
    · simp

theorem podWrite_tables (tag : Byte) (position parameter value : Nat) (s : State) :
    (podWrite tag position parameter value s).1.tables = s.tables := by
  unfold podWrite
  split
  · simp
  · split
    · split
      · simp
      · exact placeHost_tables ..
    · simp

theorem podCycle_tables (position : Nat) (s : State) : (podCycle position s).1.tables = s.tables := by
  unfold podCycle
  split
  · simp
  · split <;> simp

theorem podRelease_tables (position : Nat) (s : State) : (podRelease position s).1.tables = s.tables := by
  unfold podRelease
  split
  · simp
  · split <;> simp

theorem readKit_tables (s : State) : (readKit s).1.tables = s.tables := rfl
theorem readSnapshot_tables (s : State) : (readSnapshot s).1.tables = s.tables := rfl
theorem clearSnapshot_tables (s : State) : (clearSnapshot s).1.tables = s.tables := rfl
theorem clearCounters_tables (s : State) : (clearCounters s).1.tables = s.tables :=
  State.clearCounters_tables s

theorem clearPeaks_tables (group : Nat) (s : State) : (clearPeaks group s).1.tables = s.tables := by
  unfold clearPeaks
  split <;> simp

theorem readSag_tables (n : Nat) (s : State) : (readSag n s).1.tables = s.tables := by
  unfold readSag
  split
  · simp
  · split
    · simp
    · split <;> simp

/-! ## The other commands -/

theorem execTickStart_keepsTables (s : State) : KeepsTables s (execTickStart s) := by
  rw [execTickStart, keepsTables_next]
  split <;> simp

theorem execSweepReturn_keepsTables (port : Port) (frame : List Byte) (scan : Nat) (s : State) :
    KeepsTables s (execSweepReturn port frame scan s) := by
  unfold execSweepReturn
  split <;> simp

theorem execTickClose_keepsTables (s : State) : KeepsTables s (execTickClose s) := by
  rw [execTickClose, keepsTables_next]
  split <;> simp

theorem execTrialSweep_keepsTables (s : State) : KeepsTables s (execTrialSweep s) := by
  unfold execTrialSweep
  split <;> simp

theorem execFeedDrained_keepsTables (p : Pos) (level : Bool) (s : State) :
    KeepsTables s (execFeedDrained p level s) := by
  unfold execFeedDrained
  dsimp only
  split
  · rw [keepsTables_next]
    split <;> simp
  · simp

theorem execSagRecordEmit_keepsTables (s : State) : KeepsTables s (execSagRecordEmit s) := by
  unfold execSagRecordEmit
  split
  · simp
  · dsimp only
    split
    · simp
    · split
      · rw [keepsTables_next]
        split <;> simp
      · simp

theorem execIntervalRecordEmit_keepsTables (s : State) : KeepsTables s (execIntervalRecordEmit s) := by
  unfold execIntervalRecordEmit
  split
  · simp
  · dsimp only
    split
    · simp
    · rw [keepsTables_next]
      split <;> simp

theorem execNoteRecordEmit_keepsTables (s : State) : KeepsTables s (execNoteRecordEmit s) := by
  unfold execNoteRecordEmit
  split
  · simp
  · split
    · simp
    · split <;> simp

theorem execBadDirective_keepsTables (tag : Byte) (payload : List Byte) (s : State) :
    KeepsTables s (execBadDirective tag payload s) := by
  unfold execBadDirective
  split
  · simp
  · split
    · simp
    · rename_i taken
      obtain ⟨f, rfl⟩ := State.take_link taken
      simp

theorem execPrinterStatus_keepsTables (st : PrinterStatus) (s : State) : KeepsTables s (execPrinterStatus st s) := by
  unfold execPrinterStatus
  dsimp only
  split
  · simp
  · split
    · simp
    · rw [keepsTables_next]
      split <;> simp
    · rw [keepsTables_next]
      split <;> simp
    · rw [keepsTables_next]
      split <;> simp
    all_goals simp

end Sys2Proof.Machine
end

section
/-! The survey lock over the five analysis tables and the lock of a template in use (O9). -/

namespace Sys2Proof.Machine

/-- R6: while the survey is OPEN or CLOSING no command but HARDWARE_RESET changes an entry of the analysis tables: the five
loads are refused, and every other command keeps the tables in any survey state. -/
theorem exec_keepsTables {c : Instr} {s : State} (locked : s.survey.state ≠ .closed) (other : c ≠ .hardwareReset) :
    KeepsTables s (exec c s) := by
  cases c with
  | hardwareReset => exact absurd rfl other
  | loadChannel => exact handle_keepsTables_of_locked locked fun h => loadChannel_locked h ..
  | loadGroup => exact handle_keepsTables_of_locked locked fun h => loadGroup_locked h ..
  | loadProfile => exact handle_keepsTables_of_locked locked fun h => loadProfile_locked h ..
  | loadBins => exact handle_keepsTables_of_locked locked fun h => loadBins_locked h ..
  | loadPod => exact handle_keepsTables_of_locked locked fun h => loadPod_locked h ..
  | tickStart => exact execTickStart_keepsTables s
  | sweepReturn port frame scan => exact execSweepReturn_keepsTables port frame scan s
  | tickClose => exact execTickClose_keepsTables s
  | trialSweep => exact execTrialSweep_keepsTables s
  | downRetry => exact keepsTables_next.mpr (State.downRetry_tables s)
  | transactionTimeout => exact keepsTables_next.mpr (State.transactionTimeout_tables s)
  | poweringTimeout p => exact keepsTables_next.mpr (State.poweringTimeout_tables p s)
  | silenceLimit p => exact keepsTables_next.mpr (State.silenceLimit_tables p s)
  | offTimerExpiry p => exact keepsTables_next.mpr (State.offTimerExpiry_tables p s)
  | feedDrained p level => exact execFeedDrained_keepsTables p level s
  | drainWaitTimeout p => exact keepsTables_next.mpr (State.drainWaitTimeout_tables p s)
  | cooldownExpiry p => exact keepsTables_next.mpr (State.cooldownExpiry_tables p s)
  | quietPeriod p => exact keepsTables_next.mpr (State.quietPeriod_tables p s)
  | timedBoundary n | forcedBoundary n | wheelBoundary n => exact keepsTables_next.mpr (State.placeBoundary_tables _ n s)
  | sagRecordEmit => exact execSagRecordEmit_keepsTables s
  | intervalRecordEmit => exact execIntervalRecordEmit_keepsTables s
  | noteRecordEmit => exact execNoteRecordEmit_keepsTables s
  | frameSend | inboundFrame | byteGapTimeout => exact keepsTables_next.mpr (State.mapLink_tables _ s)
  | badDirective tag payload => exact execBadDirective_keepsTables tag payload s
  | loadTemplate => exact handle_keepsTables fun u _ => loadTemplate_tables _ _ u
  | loadPrinter => exact handle_keepsTables fun u _ => loadPrinter_tables _ u
  | loadLink => exact handle_keepsTables fun u _ => loadLink_tables _ u
  | readTable => exact handle_keepsTables fun u _ => readTable_tables _ _ u
  | openSurvey => exact handle_keepsTables fun u _ => openSurvey_tables _ u
  | closeSurvey => exact handle_keepsTables fun u _ => closeSurvey_tables u
  | restart => exact handle_keepsTables fun u _ => restart_tables u
  | setIdentity => exact handle_keepsTables fun u _ => setIdentity_tables _ u
  | addNote => exact handle_keepsTables fun u _ => addNote_tables _ u
  | amendNote => exact handle_keepsTables fun u _ => amendNote_tables _ _ u
  | withdrawNote => exact handle_keepsTables fun u _ => withdrawNote_tables _ u
  | mark => exact handle_keepsTables fun u _ => markDirective_tables u
  | readNote => exact handle_keepsTables fun u _ => readNote_tables _ u
  | submitPrint => exact handle_keepsTables fun u _ => submitPrint_tables _ u
  | cancelPrint => exact handle_keepsTables fun u _ => cancelPrint_tables _ u
  | podRead => exact handle_keepsTables fun u _ => podRead_tables _ _ _ u
  | podWrite => exact handle_keepsTables fun u _ => podWrite_tables _ _ _ _ u
  | podCycle => exact handle_keepsTables fun u _ => podCycle_tables _ u
  | podRelease => exact handle_keepsTables fun u _ => podRelease_tables _ u
  | readKit => exact handle_keepsTables fun u _ => readKit_tables u
  | readSnapshot => exact handle_keepsTables fun u _ => readSnapshot_tables u
  | clearSnapshot => exact handle_keepsTables fun u _ => clearSnapshot_tables u
  | clearCounters => exact handle_keepsTables fun u _ => clearCounters_tables u
  | clearPeaks => exact handle_keepsTables fun u _ => clearPeaks_tables _ u
  | readSag => exact handle_keepsTables fun u _ => readSag_tables _ u
  | printerStatus st => exact execPrinterStatus_keepsTables st s
  | printReplyTimeout => exact keepsTables_next.mpr (State.replyTimeout_tables s)
  | printRetryInterval => exact keepsTables_next.mpr (State.retryInterval_tables s)
  | printPollDelay => exact keepsTables_next.mpr (State.pollDelay_tables s)
  | heldPoll => exact keepsTables_next.mpr (State.heldPoll_tables s)
  | printCooldownExpiry => exact keepsTables_next.mpr (State.printCooldown_tables s)
  | heldLimitExpiry => exact keepsTables_next.mpr (State.heldLimit_tables s)

/-- Settles O9: the five loads by their first check, the template by its own lock, every other command by what its operations
leave of the analysis tables. -/
theorem tablesHoldWhileLocked : Obligations.TablesHoldWhileLocked := by
  refine ⟨fun s u tag k locked => ⟨?_, ?_, ?_, ?_, ?_⟩, fun s u tag k f => loadTemplate_locked_iff,
    fun c s t locked other run => State.tables_eq_iff.mp (exec_keepsTables locked other t run),
    fun s => ⟨_, rfl, rfl, rfl, rfl, rfl, rfl, rfl⟩⟩
  · exact fun f taken => handle_locked taken (loadChannel_locked locked k f)
  · exact fun f taken => handle_locked taken (loadGroup_locked locked k f)
  · exact fun f taken => handle_locked taken (loadProfile_locked locked k f)
  · exact fun f taken => handle_locked taken (loadBins_locked locked k f)
  · exact fun f taken => handle_locked taken (loadPod_locked locked k f)

end Sys2Proof.Machine
end

section
/-! How a load of an indexed table is decided (R5), said once for every table: the first fault of an entry as the order of
its checks, and the verdict of the common checks for each of its cases. -/

namespace Sys2Proof.Machine

/-! ## The first fault of an entry (R5) -/

/-- R5: the ranges go before the cross-field checks, and the first check that fails names the result and the field. -/
def firstFault (ranges cross : List (Bool × Nat)) : Option (ResultCode × Nat) :=
  match firstBad ranges with
  | some field => some (.badValue, field)
  | none => (firstBad cross).map fun field => (.badTable, field)

/-- A check of a range in front of the others decides when it fails. -/
theorem firstFault_range (ok : Bool) (field : Nat) (ranges cross : List (Bool × Nat)) :
    firstFault ((ok, field) :: ranges) cross =
      if ok = true then firstFault ranges cross else some (.badValue, field) := by
  cases ok <;> rfl

/-- A cross-field check decides when no range is left and it fails. -/
theorem firstFault_cross (ok : Bool) (field : Nat) (cross : List (Bool × Nat)) :
    firstFault [] ((ok, field) :: cross) =
      if ok = true then firstFault [] cross else some (.badTable, field) := by
  cases ok <;> rfl

theorem firstFault_nil : firstFault [] [] = none := rfl

theorem firstBad_eq_none {l : List (Bool × Nat)} : firstBad l = none ↔ ∀ check ∈ l, check.1 = true := by
  induction l with
  | nil => simp [firstBad]
  | cons check rest ih =>
    obtain ⟨ok, field⟩ := check
    cases ok <;> simp [firstBad, ih]

/-- R5: an entry has no fault exactly when it passes every check. -/
theorem firstFault_eq_none {ranges cross : List (Bool × Nat)} :
    firstFault ranges cross = none ↔ (∀ check ∈ ranges, check.1 = true) ∧ ∀ check ∈ cross, check.1 = true := by
  rw [← firstBad_eq_none, ← firstBad_eq_none, firstFault]
  cases firstBad ranges <;> simp

theorem within_iff {lo hi k : Nat} : within lo hi k = true ↔ lo ≤ k ∧ k ≤ hi := by simp [within]

/-! ## The verdict of the common checks (R5) -/

section
variable {α : Type} {n k : Nat} {ranges cross : α → List (Bool × Nat)}

/-- R5: the index is the second check. -/
theorem loadChecks_badIndex (f : Option α) (outside : k = 0 ∨ n < k) :
    loadChecks n false k f ranges cross = .refused .badValue [0x00] := by
  simp [loadChecks, ofNumber_eq_none.mpr outside, u8]

/-- R5: an entry with a fault is refused with its result and field. -/
theorem loadChecks_fault (i : Fin n) {x : α} {r : ResultCode} {field : Nat}
    (fault : firstFault (ranges x) (cross x) = some (r, field)) :
    loadChecks n false (ordinal i) (some x) ranges cross = .refused r [BitVec.ofNat 8 field] := by
  simp only [loadChecks, ofNumber_ordinal]
  unfold firstFault at fault
  cases range : firstBad (ranges x) with
  | some bad =>
    rw [range] at fault
    cases fault
    rfl
  | none =>
    rw [range] at fault
    obtain ⟨bad, table, same⟩ := Option.map_eq_some_iff.mp fault
    cases same
    rw [table]
    rfl

/-- R5: an entry without a fault is taken. -/
theorem loadChecks_taken (i : Fin n) {x : α} (sound : firstFault (ranges x) (cross x) = none) :
    loadChecks n false (ordinal i) (some x) ranges cross = .taken i (some x) := by
  obtain ⟨inRange, agree⟩ := firstFault_eq_none.mp sound
  simp [loadChecks, firstBad_eq_none.mpr inRange, firstBad_eq_none.mpr agree]

/-- R5: the form that gives the index alone is taken. -/
theorem loadChecks_unset (i : Fin n) : loadChecks n false (ordinal i) none ranges cross = .taken i none := by
  simp [loadChecks]

/-- R5: a load whose owner answers as the common checks say, and whose statement's fault is the first check that fails, is
decided as R5 says. -/
theorem loadFollows_of_loadChecks {lock : Bool} {locked : Prop} {f : Option α} {fault : α → Option (ResultCode × Nat)}
    {answer : ResultCode → List Byte → Prop} {taken : Fin n → Prop} (locked_iff : lock = true ↔ locked)
    (fault_eq : ∀ x, fault x = firstFault (ranges x) (cross x))
    (answered : ∀ r data, loadChecks n lock k f ranges cross = .refused r data → answer r data)
    (stored : ∀ i, k = ordinal i → loadChecks n lock k f ranges cross = .taken i f → taken i) :
    LoadFollows n locked k (f.bind fault) answer taken := by
  refine ⟨fun held => ?_, fun free outside => ?_, fun i free index r field bad => ?_, fun i free index sound => ?_⟩
  · exact answered _ _ (loadChecks_eq_locked_iff.mpr ⟨locked_iff.mpr held, rfl⟩)
  all_goals obtain rfl : lock = false := Bool.eq_false_iff.mpr (mt locked_iff.mp free)
  · exact answered _ _ (loadChecks_badIndex f outside)
  · obtain ⟨x, rfl, bad⟩ := Option.bind_eq_some_iff.mp bad
    obtain rfl : k = ordinal i := index
    exact answered _ _ (loadChecks_fault i (fault_eq x ▸ bad))
  · obtain rfl : k = ordinal i := index
    refine stored i rfl ?_
    cases f with
    | none => exact loadChecks_unset i
    | some x => exact loadChecks_taken i (fault_eq x ▸ sound)

end

/-! ## Taking and answering -/

/-- R177, R179: a taken directive that its owner answers fills the reply with that answer. -/
theorem handle_answered {s u v : State} {tag : Byte} {d : Directive} {owner : State → Answer} {r : ResultCode}
    {data : List Byte} (taken : Takes s tag d u) (answer : owner u = (v, some (r, data))) :
    handle tag d owner s = .next (replied tag (codeDirective d) r data v) := by
  rw [handle_of_takes taken, answer]

/-- R177: taking a directive leaves the harmonic analyser alone. -/
theorem Takes.harmonics {s u : State} {tag : Byte} {d : Directive} (taken : Takes s tag d u) :
    u.harmonics = s.harmonics := by
  obtain ⟨-, ⟨-, rfl⟩ | ⟨_, _, -, -, rfl⟩⟩ := taken <;> rfl

end Sys2Proof.Machine
end

section
/-! LOAD-PROFILE and LOAD-BINS: the checks of their entries, what they store, and the bin set read back (O34). -/

namespace Sys2Proof.Machine

/-! ## The checks of a profile (R84, R85) -/

theorem profileFault_eq_firstFault (p : ProfileFields) :
    profileFault p = firstFault (profileRanges p) (profileCross p) := by
  simp only [profileFault, profileRanges, profileCross, firstFault_range, firstFault_cross, firstFault_nil, within_iff,
    decide_eq_true_eq, Nat.zero_le, true_and, ite_not, ← Nat.not_le]

/-- R85: the thresholds of a profile that passes its checks are ordered. -/
theorem thresholds_ordered_of_sound {p : ProfileFields} (sound : profileFault p = none) :
    0 < p.intEnter ∧ p.intEnter < p.intExit ∧ p.intExit ≤ p.sagEnter ∧ p.sagEnter < p.sagExit ∧
      p.sagExit ≤ 10000 ∧ 10000 ≤ p.swellExit ∧ p.swellExit < p.swellEnter := by
  rw [profileFault_eq_firstFault] at sound
  obtain ⟨inRange, agree⟩ := firstFault_eq_none.mp sound
  have entered : 1 ≤ p.intEnter := (within_iff.mp (inRange _ (List.mem_cons_self ..))).1
  exact ⟨entered, by simpa [profileCross] using agree⟩

/-! ## The checks of a bin set (R114, R115) -/

theorem ascending_iff_pairwise : ∀ {l : List Nat}, ascending l = true ↔ l.Pairwise (· < ·)
  | [] => by simp [ascending]
  | [_] => by simp [ascending]
  | x :: y :: rest => by
    have headBelow (rising : (y :: rest).Pairwise (· < ·)) : x < y ↔ ∀ z ∈ y :: rest, x < z := by
      refine ⟨fun below z among => ?_, fun below => below y List.mem_cons_self⟩
      obtain rfl | later := List.mem_cons.mp among
      · exact below
      · exact Nat.lt_trans below ((List.pairwise_cons.mp rising).1 z later)
    rw [List.pairwise_cons, ascending, Bool.and_eq_true, decide_eq_true_eq, ascending_iff_pairwise]
    exact and_congr_left headBelow

theorem binFault_eq_firstFault (b : BinFields) : binFault b = firstFault (binRanges b) (binCross b) := by
  simp only [binFault, binRanges, binCross, firstFault_range, firstFault_cross, firstFault_nil, within_iff,
    ascending_iff_pairwise, Bool.and_eq_true, List.all_eq_true, List.contains_iff_mem, List.mem_cons, List.not_mem_nil,
    or_false, and_assoc, decide_eq_true_eq, Nat.zero_le, true_and, ne_eq, ite_not, ← Nat.not_le]

/-! ## What the loads answer -/

section
variable {i : Nat} {s : State}

theorem loadProfile_refused {f : Option ProfileFields} {r : ResultCode} {data : List Byte}
    (verdict : loadChecks 8 s.surveyLock i f profileRanges profileCross = .refused r data) :
    loadProfile i f s = (s, some (r, data)) := by
  rw [loadProfile, verdict]
  rfl

/-- R84: an accepted LOAD-PROFILE replaces one entry. -/
theorem loadProfile_taken {f : Option ProfileFields} {e : Fin 8}
    (verdict : loadChecks 8 s.surveyLock i f profileRanges profileCross = .taken e f) :
    loadProfile i f s =
      ({ s with events := { s.events with profiles := s.events.profiles.set e f } },
        some (.ok, [BitVec.ofNat 8 (ordinal e)])) := by
  rw [loadProfile, verdict]
  rfl

theorem loadBins_refused {f : Option BinFields} {r : ResultCode} {data : List Byte}
    (verdict : loadChecks 4 s.surveyLock i f binRanges binCross = .refused r data) :
    loadBins i f s = (s, some (r, data)) := by
  rw [loadBins, verdict]
  rfl

/-- R114: an accepted LOAD-BINS replaces one entry. -/
theorem loadBins_taken {f : Option BinFields} {e : Fin 4}
    (verdict : loadChecks 4 s.surveyLock i f binRanges binCross = .taken e f) :
    loadBins i f s =
      ({ s with harmonics := { s.harmonics with binSets := s.harmonics.binSets.set e f } },
        some (.ok, [BitVec.ofNat 8 (ordinal e)])) := by
  rw [loadBins, verdict]
  rfl

end

/-- R7, R192: READ-TABLE of a set bin set answers its table code, its index, 1 and its fields. -/
theorem readTable_bins {s : State} {i : Fin 4} {b : BinFields} (entry : s.harmonics.binSets.get i = some b) :
    readTable 4 (ordinal i) s =
      (s, some (.ok, 0x04 :: BitVec.ofNat 8 (ordinal i) :: 0x01 :: binBytes b)) := by
  simp only [readTable, tableEntry, ofNumber_ordinal, Option.map_some, entry]
  rfl

/-! ## The obligation -/

/-- Settles O34: each load answers as the common checks of R5 decide, the ordering of a profile is its ranges and cross-field
checks all passed, and READ-TABLE finds the bin set in the entry that the load has replaced. -/
theorem profileAndBinLoads : Obligations.ProfileAndBinLoads := by
  refine ⟨⟨fun s u tag k f takes => ?_, fun p => thresholds_ordered_of_sound⟩, fun s u tag k f takes => ?_⟩
  · refine loadFollows_of_loadChecks decide_eq_true_iff profileFault_eq_firstFault (fun r data verdict => ?_) ?_
    · exact handle_answered takes (loadProfile_refused verdict)
    · rintro i rfl verdict
      exact handle_answered takes (loadProfile_taken verdict)
  · refine loadFollows_of_loadChecks decide_eq_true_iff binFault_eq_firstFault (fun r data verdict => ?_) ?_
    · exact handle_answered takes (loadBins_refused verdict)
    · rintro i rfl verdict
      refine ⟨handle_answered takes (loadBins_taken verdict), fun b tag' w stored takes' => ?_⟩
      have entry : w.harmonics.binSets.get i = some b := by
        rw [takes'.harmonics]
        exact (Table.get_set_self ..).trans stored
      exact handle_answered takes' (readTable_bins entry)

end Sys2Proof.Machine
end

section
/-! MARK (R146): a number inserted into a rising list, the directive's answer in each of its three cases, and the obligation
O49. -/

namespace Sys2Proof.Machine

/-! ## The pending set (R150) -/

/-- R150: an inserted number joins the numbers of the list. -/
@[simp] theorem mem_insertRising {k n : Nat} {l : List Nat} : k ∈ insertRising n l ↔ k ∈ l ∨ k = n := by
  induction l with
  | nil => simp [insertRising]
  | cons y ys ih =>
    rw [insertRising]
    split
    · rw [List.mem_cons, or_comm]
    · split
      · next same =>
        subst same
        exact (or_iff_left_of_imp fun here => here ▸ List.mem_cons_self).symm
      · rw [List.mem_cons, ih, List.mem_cons, or_assoc]

/-! ## The directive -/

/-- R146, R148: the state after a lost mark. -/
def markLostIn (s : State) : State := s.mapNotes fun x => { x with markLost := bump x.markLost }

/-- R140, R146: the state after a MARK note at the current tick. -/
def markNoted (s : State) : State := s.mapNotes (Notes.create (markNote s.survey.tick s.survey.tick none))

section
variable {s : State}

theorem markDirective_notOpen (notOpen : s.survey.state ≠ .opened) :
    markDirective s = refuse .notOpen [] (markLostIn s) := if_pos notOpen

theorem markDirective_noRoom (opened : s.survey.state = .opened) (full : 128 ≤ s.notes.notes.length) :
    markDirective s = refuse .noRoom [] (markLostIn s) :=
  (if_neg (not_not_intro opened)).trans (if_neg (Nat.not_lt.mpr full))

/-- R146: the reply names the number of the note, which is the length of the table that now holds it. -/
theorem markDirective_taken (opened : s.survey.state = .opened) (room : s.notes.notes.length < 128) :
    markDirective s = accept (markNoted s) (u8 (s.notes.notes.length + 1)) := by
  have taken : markDirective s = accept (markNoted s) (u8 (markNoted s).notes.notes.length) :=
    (if_neg (not_not_intro opened)).trans (if_pos room)
  have length : (markNoted s).notes.notes.length = s.notes.notes.length + 1 := List.length_append
  rw [taken, length]

end

/-! ## The obligation -/

/-- Settles O49: the answer of a MARK that is taken is the directive's in the case at hand, and the pending set of the created
note is the old one with the note's number inserted. -/
theorem markMakesNote : Obligations.MarkMakesNote := by
  intro s u tag takes
  refine ⟨fun notOpen => ?_, fun opened full => ?_, fun opened room => ⟨_, fun k => mem_insertRising, ?_⟩⟩
  · exact handle_answered takes (markDirective_notOpen notOpen)
  · exact handle_answered takes (markDirective_noRoom opened full)
  · exact handle_answered takes (markDirective_taken opened room)

end Sys2Proof.Machine
end
